-- ==== Sys2Proof/Word.lean ====
section
/-! DEFINITION. The word type of the unit (00_scope.md R6, R10) and the number of a Num register (10_state.md R21). -/

namespace Sys2Proof

/-- A `Bits128` value (00_scope.md R6, R10): the contents of a Num register, of RES and of an operand bus.
Bit 0 is the least significant bit and bit 127 is the sign. -/
abbrev Word := BitVec 128

/-- The number of a Num register, N0 to N7 (10_state.md R21, 30_encoding.md R76): every value is legal. -/
abbrev NumReg := Fin 8

/-- The index of a control register in a CSRR (10_state.md R26, 30_encoding.md R71): a 3-bit field, all of whose
values decode; 3 to 7 are reserved and are refused by CSRR itself. -/
abbrev CsrIndex := Fin 8

end Sys2Proof
end

