-- ==== Sys2Proof/Syntax.lean ====
section
/-! DEFINITION. The commands of FXU-128, one constructor per row of the opcode map (30_encoding.md R74), and the seven
formats of a command word (30_encoding.md R72). -/

namespace Sys2Proof

/-- One command's operation with the register fields of its word. Native operands (integers, floats, fractions, shift counts,
the new CFG) travel on the operand buses and are no part of the word (30_encoding.md R71, R77). -/
inductive Instr where
  /-- NOP, format Z (45_control.md R200). -/
  | nop
  /-- LDZERO rd, format D (40_construct.md R101). -/
  | ldzero (rd : NumReg)
  /-- LDONE rd, format D (40_construct.md R102). -/
  | ldone (rd : NumReg)
  /-- LDPI rd, format D (40_construct.md R104). -/
  | ldpi (rd : NumReg)
  /-- LDE rd, format D (40_construct.md R105). -/
  | lde (rd : NumReg)
  /-- LDHPI rd, format D (40_construct.md R106). -/
  | ldhpi (rd : NumReg)
  /-- NEW rd, OPA = integer part, OPB = fraction bits, format D (40_construct.md R107). -/
  | new (rd : NumReg)
  /-- FROMI rd, OPA = signed integer, format D (40_construct.md R108). -/
  | fromi (rd : NumReg)
  /-- FROMU rd, OPA = unsigned integer, format D (40_construct.md R109). -/
  | fromu (rd : NumReg)
  /-- FROMF rd, OPA[63:0] = binary64, format D (40_construct.md R112). -/
  | fromf (rd : NumReg)
  /-- FRACONLY rd, OPA[63:0] = 64-bit fraction, format D (40_construct.md R113). -/
  | fraconly (rd : NumReg)
  /-- LDRAW rd, OPA = raw bits, format D (40_construct.md R114). -/
  | ldraw (rd : NumReg)
  /-- MOV rd, rs1, format DS (40_construct.md R115). -/
  | mov (rd rs1 : NumReg)
  /-- ADD rd, rs1, rs2, format DSS (41_addsub.md R140). -/
  | add (rd rs1 rs2 : NumReg)
  /-- SUB rd, rs1, rs2, format DSS (41_addsub.md R141). -/
  | sub (rd rs1 rs2 : NumReg)
  /-- ADDI rd, rs1, OPA = signed integer, format DS (41_addsub.md R142). -/
  | addi (rd rs1 : NumReg)
  /-- SUBI rd, rs1, OPA = signed integer, format DS (41_addsub.md R143). -/
  | subi (rd rs1 : NumReg)
  /-- ADDF rd, rs1, OPA[63:0] = binary64, format DS (41_addsub.md R144). -/
  | addf (rd rs1 : NumReg)
  /-- SUBF rd, rs1, OPA[63:0] = binary64, format DS (41_addsub.md R145). -/
  | subf (rd rs1 : NumReg)
  /-- NEG rd, rs1, format DS (41_addsub.md R147). -/
  | neg (rd rs1 : NumReg)
  /-- MUL rd, rs1, rs2, format DSS (42_muldiv.md R160). -/
  | mul (rd rs1 rs2 : NumReg)
  /-- MULI rd, rs1, OPA = signed integer, format DS (42_muldiv.md R161). -/
  | muli (rd rs1 : NumReg)
  /-- MULF rd, rs1, OPA[63:0] = binary64, format DS (42_muldiv.md R162). -/
  | mulf (rd rs1 : NumReg)
  /-- DIV rd, rs1 (dividend), rs2 (divisor), format DSS (42_muldiv.md R164). -/
  | div (rd rs1 rs2 : NumReg)
  /-- SHL rd, rs1, OPA = unsigned bit count, format DS (43_shift_floor.md R180). -/
  | shl (rd rs1 : NumReg)
  /-- SHR rd, rs1, OPA = unsigned bit count, format DS (43_shift_floor.md R181). -/
  | shr (rd rs1 : NumReg)
  /-- FLOOR rd, rs1, format DS (43_shift_floor.md R182). -/
  | floor (rd rs1 : NumReg)
  /-- CMP rs1, rs2, format SS (44_compare_convert.md R190). -/
  | cmp (rs1 rs2 : NumReg)
  /-- TOI rs1, format S (44_compare_convert.md R191). -/
  | toi (rs1 : NumReg)
  /-- TOF rs1, format S (44_compare_convert.md R192). -/
  | tof (rs1 : NumReg)
  /-- RDRAW rs1, format S (44_compare_convert.md R193). -/
  | rdraw (rs1 : NumReg)
  /-- CFGW, OPA = new CFG, format Z (45_control.md R201). -/
  | cfgw
  /-- CSRR csr, format C (45_control.md R202). -/
  | csrr (csr : CsrIndex)
  /-- CLRST, format Z (45_control.md R203). -/
  | clrst
deriving DecidableEq, Repr

/-- The seven formats of a command word (30_encoding.md R72). -/
inductive Format where
  /-- No field. -/
  | z
  /-- RD. -/
  | d
  /-- RD and RS1. -/
  | ds
  /-- RD, RS1 and RS2. -/
  | dss
  /-- RS1. -/
  | s
  /-- RS1 and RS2. -/
  | ss
  /-- CSR. -/
  | c
deriving DecidableEq, Repr

end Sys2Proof
end

