-- ==== Sys2Proof/WellFormed.lean ====
section
/-! DEFINITION. The legality of a command word, field by field, as 30_encoding.md R72, R73 and R75 state it. A term of `Instr`
is well-formed by its type (a register number is a `Fin 8`, a control register index too: R76, R80), so what can be
ill-formed is the word: three checks, each of which refuses some words. The decoder of Decode.lean tests the same legality by
the mask of the format, as R80 does. -/

namespace Sys2Proof

/-- The format of each assigned opcode (the format column of 30_encoding.md R74); `none` for the reserved opcodes
0x0D–0x0F, 0x17, 0x1F, 0x24–0x2F and 0x33–0x3F (R75). -/
def opcodeFormat (op : Nat) : Option Format :=
  if op = 0x00 then some .z
  else if op ≤ 0x0B then some .d
  else if op = 0x0C then some .ds
  else if op ≤ 0x0F then none
  else if op ≤ 0x11 then some .dss
  else if op ≤ 0x16 then some .ds
  else if op = 0x17 then none
  else if op = 0x18 then some .dss
  else if op ≤ 0x1A then some .ds
  else if op = 0x1B then some .dss
  else if op ≤ 0x1E then some .ds
  else if op = 0x1F then none
  else if op = 0x20 then some .ss
  else if op ≤ 0x23 then some .s
  else if op ≤ 0x2F then none
  else if op = 0x30 then some .z
  else if op = 0x31 then some .c
  else if op = 0x32 then some .z
  else none

/-- Check 1: RSV, W[31:18], is zero (30_encoding.md R73). -/
def reservedBitsZero (w : BitVec 32) : Bool := w.extractLsb 31 18 == 0

/-- Check 2: the opcode W[5:0] is assigned (30_encoding.md R74, R75). -/
def opcodeAssigned (w : BitVec 32) : Bool := (opcodeFormat (w.extractLsb 5 0).toNat).isSome

/-- The fields of W that a format does not use are zero (30_encoding.md R72, column "must be zero"). -/
def unusedZeroIn (f : Format) (w : BitVec 32) : Bool :=
  match f with
  | .z => w.extractLsb 31 6 == 0
  | .d => w.extractLsb 31 9 == 0
  | .ds => w.extractLsb 31 12 == 0
  | .dss => w.extractLsb 31 15 == 0
  | .s => w.extractLsb 31 12 == 0 && w.extractLsb 8 6 == 0
  | .ss => w.extractLsb 31 15 == 0 && w.extractLsb 8 6 == 0
  | .c => w.extractLsb 31 18 == 0 && w.extractLsb 14 6 == 0

/-- Check 3: every field the opcode's format does not use is zero (30_encoding.md R72); a reserved opcode has no format and
fails check 2, not this one. -/
def unusedFieldsZero (w : BitVec 32) : Bool :=
  match opcodeFormat (w.extractLsb 5 0).toNat with
  | some f => unusedZeroIn f w
  | none => true

/-- A command word is legal (30_encoding.md R72, R73, R75). -/
def wordWellFormed (w : BitVec 32) : Bool := reservedBitsZero w && opcodeAssigned w && unusedFieldsZero w

end Sys2Proof
end

