-- ==== Sys2Proof/Decode.lean ====
section
/-! DEFINITION. The decoder of 30_encoding.md R80, total on every word of 32 bits and rejecting by name, and the encoder
written from the field layout of R71 and the opcode map of R74. -/

namespace Sys2Proof

/-- Why a word is no legal command. All three raise ILLEGAL_OPERATION (30_encoding.md R75). -/
inductive Reject where
  /-- A bit of RSV, W[31:18], is set (30_encoding.md R73). -/
  | reservedBits
  /-- The opcode is reserved (30_encoding.md R75). -/
  | reservedOpcode
  /-- A field the format does not use is not zero (30_encoding.md R72). -/
  | unusedField
deriving DecidableEq, Repr

/-- OP = W[5:0] (30_encoding.md R71). -/
def opField (w : BitVec 32) : BitVec 6 := w.extractLsb' 0 6

/-- RD = W[8:6] (30_encoding.md R71). -/
def rdField (w : BitVec 32) : NumReg := (w.extractLsb' 6 3).toFin

/-- RS1 = W[11:9] (30_encoding.md R71). -/
def rs1Field (w : BitVec 32) : NumReg := (w.extractLsb' 9 3).toFin

/-- RS2 = W[14:12] (30_encoding.md R71). -/
def rs2Field (w : BitVec 32) : NumReg := (w.extractLsb' 12 3).toFin

/-- CSR = W[17:15] (30_encoding.md R71). -/
def csrField (w : BitVec 32) : CsrIndex := (w.extractLsb' 15 3).toFin

/-- RSV = W[31:18] (30_encoding.md R71). -/
def rsvField (w : BitVec 32) : BitVec 14 := w.extractLsb' 18 14

/-- The mask column of 30_encoding.md R72. -/
def formatMask (f : Format) : BitVec 32 :=
  match f with
  | .z => 0xFFFFFFFF
  | .d => 0xFFFFFE3F
  | .ds => 0xFFFFF03F
  | .dss => 0xFFFF803F
  | .s => 0xFFFFF1FF
  | .ss => 0xFFFF81FF
  | .c => 0xFFFC7FFF

/-- `(W & mask(format)) == OP`, the last test of 30_encoding.md R80. -/
def inFormat (f : Format) (w : BitVec 32) (i : Instr) : Except Reject Instr :=
  if w &&& formatMask f = (opField w).setWidth 32 then .ok i else .error .unusedField

/-- 30_encoding.md R80: the command a word stands for, or the reason it is illegal. OPA and OPB take no part (R70). -/
def decode (w : BitVec 32) : Except Reject Instr :=
  if rsvField w ≠ 0 then .error .reservedBits
  else
    match (opField w).toNat with
    | 0x00 => inFormat .z w .nop
    | 0x01 => inFormat .d w (.ldzero (rdField w))
    | 0x02 => inFormat .d w (.ldone (rdField w))
    | 0x03 => inFormat .d w (.ldpi (rdField w))
    | 0x04 => inFormat .d w (.lde (rdField w))
    | 0x05 => inFormat .d w (.ldhpi (rdField w))
    | 0x06 => inFormat .d w (.new (rdField w))
    | 0x07 => inFormat .d w (.fromi (rdField w))
    | 0x08 => inFormat .d w (.fromu (rdField w))
    | 0x09 => inFormat .d w (.fromf (rdField w))
    | 0x0A => inFormat .d w (.fraconly (rdField w))
    | 0x0B => inFormat .d w (.ldraw (rdField w))
    | 0x0C => inFormat .ds w (.mov (rdField w) (rs1Field w))
    | 0x10 => inFormat .dss w (.add (rdField w) (rs1Field w) (rs2Field w))
    | 0x11 => inFormat .dss w (.sub (rdField w) (rs1Field w) (rs2Field w))
    | 0x12 => inFormat .ds w (.addi (rdField w) (rs1Field w))
    | 0x13 => inFormat .ds w (.subi (rdField w) (rs1Field w))
    | 0x14 => inFormat .ds w (.addf (rdField w) (rs1Field w))
    | 0x15 => inFormat .ds w (.subf (rdField w) (rs1Field w))
    | 0x16 => inFormat .ds w (.neg (rdField w) (rs1Field w))
    | 0x18 => inFormat .dss w (.mul (rdField w) (rs1Field w) (rs2Field w))
    | 0x19 => inFormat .ds w (.muli (rdField w) (rs1Field w))
    | 0x1A => inFormat .ds w (.mulf (rdField w) (rs1Field w))
    | 0x1B => inFormat .dss w (.div (rdField w) (rs1Field w) (rs2Field w))
    | 0x1C => inFormat .ds w (.shl (rdField w) (rs1Field w))
    | 0x1D => inFormat .ds w (.shr (rdField w) (rs1Field w))
    | 0x1E => inFormat .ds w (.floor (rdField w) (rs1Field w))
    | 0x20 => inFormat .ss w (.cmp (rs1Field w) (rs2Field w))
    | 0x21 => inFormat .s w (.toi (rs1Field w))
    | 0x22 => inFormat .s w (.tof (rs1Field w))
    | 0x23 => inFormat .s w (.rdraw (rs1Field w))
    | 0x30 => inFormat .z w .cfgw
    | 0x31 => inFormat .c w (.csrr (csrField w))
    | 0x32 => inFormat .z w .clrst
    | _ => .error .reservedOpcode

/-- A word from its fields, RSV zero: `{RSV, CSR, RS2, RS1, RD, OP}` (30_encoding.md R71). -/
def packWord (op : BitVec 6) (rd rs1 rs2 : NumReg) (csr : CsrIndex) : BitVec 32 :=
  0#14 ++ BitVec.ofNat 3 csr.val ++ BitVec.ofNat 3 rs2.val ++ BitVec.ofNat 3 rs1.val ++ BitVec.ofNat 3 rd.val ++ op

/-- The word of each command: its opcode and its fields, every field it does not use zero (30_encoding.md R72, R74). -/
def encode (i : Instr) : BitVec 32 :=
  match i with
  | .nop => packWord 0x00 0 0 0 0
  | .ldzero rd => packWord 0x01 rd 0 0 0
  | .ldone rd => packWord 0x02 rd 0 0 0
  | .ldpi rd => packWord 0x03 rd 0 0 0
  | .lde rd => packWord 0x04 rd 0 0 0
  | .ldhpi rd => packWord 0x05 rd 0 0 0
  | .new rd => packWord 0x06 rd 0 0 0
  | .fromi rd => packWord 0x07 rd 0 0 0
  | .fromu rd => packWord 0x08 rd 0 0 0
  | .fromf rd => packWord 0x09 rd 0 0 0
  | .fraconly rd => packWord 0x0A rd 0 0 0
  | .ldraw rd => packWord 0x0B rd 0 0 0
  | .mov rd rs1 => packWord 0x0C rd rs1 0 0
  | .add rd rs1 rs2 => packWord 0x10 rd rs1 rs2 0
  | .sub rd rs1 rs2 => packWord 0x11 rd rs1 rs2 0
  | .addi rd rs1 => packWord 0x12 rd rs1 0 0
  | .subi rd rs1 => packWord 0x13 rd rs1 0 0
  | .addf rd rs1 => packWord 0x14 rd rs1 0 0
  | .subf rd rs1 => packWord 0x15 rd rs1 0 0
  | .neg rd rs1 => packWord 0x16 rd rs1 0 0
  | .mul rd rs1 rs2 => packWord 0x18 rd rs1 rs2 0
  | .muli rd rs1 => packWord 0x19 rd rs1 0 0
  | .mulf rd rs1 => packWord 0x1A rd rs1 0 0
  | .div rd rs1 rs2 => packWord 0x1B rd rs1 rs2 0
  | .shl rd rs1 => packWord 0x1C rd rs1 0 0
  | .shr rd rs1 => packWord 0x1D rd rs1 0 0
  | .floor rd rs1 => packWord 0x1E rd rs1 0 0
  | .cmp rs1 rs2 => packWord 0x20 0 rs1 rs2 0
  | .toi rs1 => packWord 0x21 0 rs1 0 0
  | .tof rs1 => packWord 0x22 0 rs1 0 0
  | .rdraw rs1 => packWord 0x23 0 rs1 0 0
  | .cfgw => packWord 0x30 0 0 0 0
  | .csrr csr => packWord 0x31 0 0 0 csr
  | .clrst => packWord 0x32 0 0 0 0

/-- The word the host's opcode table numbers `w` in its low `nbits` bits, the bits above zero. A command word is one word of 32
bits with bit 0 least significant and crosses the interface whole: there is no byte order (20_memory.md R51, 30_encoding.md
R83). -/
def tableWord (nbits w : Nat) : BitVec 32 := BitVec.ofNat 32 (w % 2 ^ nbits)

/-- What the decoder reads from the table's word `w`. -/
def decodeTableWord (nbits w : Nat) : Option Instr :=
  match decode (tableWord nbits w) with
  | .ok i => some i
  | .error _ => none

end Sys2Proof
end

