-- ==== Sys2Proof/Config.lean ====
section
/-! DEFINITION. What an implementation of FXU-128 fixes: the parameter IMAX_SLACK (00_scope.md R8, R9). The spec leaves
no value free (93_implementation_defined.md: "No behaviour of FXU-128 is `any value`"), so there is no opaque constant. -/

namespace Sys2Proof

/-- The implementation parameter IMAX_SLACK (00_scope.md R8): fixed per implementation, 1 or 2. A machine state carries the
value of its implementation (`Machine.State.imaxSlack`), so that every statement covers both. -/
inductive ImaxSlack where
  /-- IMAX_SLACK = 1, the exact fit bound. -/
  | one
  /-- IMAX_SLACK = 2, the default. -/
  | two
deriving DecidableEq, Repr

end Sys2Proof
end

