-- ==== Sys2Proof/Machine/State.lean ====
section
/-! DEFINITION. The state of FXU-128: the architectural state `(N0..N7, RES, CFG, STATUS)` of 10_state.md R34, the
implementation parameter of R34, and what the model needs beside them: the inputs the host drives (10_state.md R35) and the
host's command index (R24). Reset values: 10_state.md R36. -/

namespace Sys2Proof.Machine

/-- The error codes of STATUS.ERR (60_exceptions.md R211). Codes 9..15 are reserved and never raised, so no constructor stands
for them; the numbers are in `errCode` of Flags.lean. -/
inductive ErrCode where
  /-- 0, NONE: the command succeeded. -/
  | none
  /-- 1, CONSTRUCTION_OVERFLOW. -/
  | constructionOverflow
  /-- 2, NON_FINITE_OPERAND. -/
  | nonFiniteOperand
  /-- 3, UNREPRESENTABLE_CONVERSION. -/
  | unrepresentableConversion
  /-- 4, NOT_IMPLEMENTED: a code of the taxonomy that no command raises. -/
  | notImplemented
  /-- 5, ARITH_OVERFLOW. -/
  | arithOverflow
  /-- 6, DIVIDE_BY_ZERO. -/
  | divideByZero
  /-- 7, SHIFT_RANGE. -/
  | shiftRange
  /-- 8, ILLEGAL_OPERATION. -/
  | illegalOperation
deriving DecidableEq, Repr

/-- The values of STATUS.CMP (10_state.md R29). -/
inductive CmpFlag where
  /-- 0, EQ. -/
  | eq
  /-- 1, LT: rs1 < rs2. -/
  | lt
  /-- 2, GT: rs1 > rs2. -/
  | gt
  /-- 3, NONE: no CMP since the last reset or CLRST. -/
  | none
deriving DecidableEq, Repr

/-- CFG.RM, the rounding mode of FROMF (10_state.md R27). -/
inductive RoundMode where
  /-- 0, BIASED: round half away from zero. -/
  | biased
  /-- 1, TRUNC: toward zero. -/
  | trunc
deriving DecidableEq, Repr

/-- CFG.DR, the rounding of DIV (10_state.md R27, 42_muldiv.md R163). -/
inductive DivRound where
  /-- 0, toward zero. -/
  | towardZero
  /-- 1, toward negative infinity. -/
  | towardNegInf
deriving DecidableEq, Repr

/-- The configuration register by its fields (10_state.md R27). The reserved bits 7 and 31:10 can only hold 0 and are not
stored; the 32-bit word is `cfgWord` of Flags.lean (DEDUCED, log entry 5). -/
structure Cfg where
  /-- CFG.F, bits 6:0: the fractional bit count; legal values 1..64. -/
  f : BitVec 7
  /-- CFG.RM, bit 8. -/
  rm : RoundMode
  /-- CFG.DR, bit 9. -/
  dr : DivRound
deriving DecidableEq, Repr

/-- The status register by its fields (10_state.md R29). The reserved bits 31:7 read as 0 and are not stored; the 32-bit word
is `statusWord` of Flags.lean (DEDUCED, log entry 5). -/
structure Status where
  /-- STATUS.ERR, bits 3:0. -/
  err : ErrCode
  /-- STATUS.STICKY, bit 4. -/
  sticky : Bool
  /-- STATUS.CMP, bits 6:5. -/
  cmp : CmpFlag
deriving DecidableEq, Repr

/-- A command `(W, OPA, OPB)` as the host presents it (30_encoding.md R70, 20_memory.md R53). -/
structure Command where
  /-- The command word, `cmd_i`. -/
  word : BitVec 32
  /-- Operand bus A, `opa_i`. -/
  opa : Word
  /-- Operand bus B, `opb_i`. -/
  opb : Word
deriving DecidableEq, Repr

/-- What the host drives on the unit's input ports at one point between commands (10_state.md R35). The clock is not modelled
(70_reset_and_hazards.md R238). -/
structure PortIn where
  /-- `rst_i`. -/
  rst : Bool
  /-- `cmd_valid_i`. -/
  valid : Bool
  /-- `cmd_i`, `opa_i` and `opb_i`. -/
  cmd : Command
deriving DecidableEq, Repr

/-- A state of the machine: plain data. -/
structure State where
  /-- N0..N7 (10_state.md R21). -/
  nums : Vector Word 8
  /-- RES (10_state.md R25). -/
  res : Word
  /-- CFG (10_state.md R27). -/
  cfg : Cfg
  /-- STATUS (10_state.md R29). -/
  status : Status
  /-- The implementation parameter IMAX_SLACK, which ID shows (00_scope.md R8, 10_state.md R30, R34): no step changes it.
  It stands in the state so that a statement about every state covers both values (DESIGN CHOICE, log entry 4). -/
  imaxSlack : ImaxSlack
  /-- OPA as sampled with the latest accepted command (10_state.md R35): the model's own field (DESIGN CHOICE, log entry 2). -/
  opa : Word
  /-- OPB as sampled with the latest accepted command (10_state.md R35): the model's own field (DESIGN CHOICE, log entry 2). -/
  opb : Word
  /-- The index of the next command in the host's command sequence (10_state.md R24): the model's own field (DESIGN CHOICE, log entry 3). -/
  index : Nat
  /-- What the host will drive on the input ports, first first (10_state.md R35): the model's own field (DESIGN CHOICE, log entry 1). -/
  pending : List PortIn
deriving DecidableEq, Repr

/-- Why the machine stops with a fault. There is no constructor: the unit has no memory, no trap and no undefined behaviour
(20_memory.md R50, 60_exceptions.md R216, 93_implementation_defined.md), and every failure is an error code in STATUS
after which the unit goes on (60_exceptions.md R210, R212). -/
inductive Fault where
deriving DecidableEq, Repr

/-- Why a command has no meaning in the model. -/
inductive Refusal where
  /-- Raised by `exec` for a command the model gives no meaning yet: safe, since the machine stops. No arm of `exec` raises it:
  every command of the opcode map has its meaning. -/
  | notModelled (mnemonic : String)
deriving DecidableEq, Repr

/-- The outcome of a step of this machine. -/
abbrev Outcome := Host.Outcome State Fault Refusal

/-- STATUS after reset and after CLRST: ERR = 0, STICKY = 0, CMP = 3 NONE, the word 0x60 (10_state.md R29, R36). -/
def Status.reset : Status := { err := .none, sticky := false, cmp := .none }

/-- CFG after reset: F = 8, RM = 0 BIASED, DR = 0 toward zero, the word 0x8 (10_state.md R27, R36). -/
def Cfg.reset : Cfg := { f := 8, rm := .biased, dr := .towardZero }

/-- The machine right after reset (10_state.md R36, 70_reset_and_hazards.md R231), of an implementation with the default
IMAX_SLACK = 2 (00_scope.md R8), with no command offered yet. The values of the model's own fields are DESIGN CHOICES (log
entries 1 to 4). -/
def State.reset : State :=
  { nums := Vector.replicate 8 0
    res := 0
    cfg := Cfg.reset
    status := Status.reset
    imaxSlack := .two
    opa := 0
    opb := 0
    index := 0
    pending := [] }

end Sys2Proof.Machine
end

