-- ==== Sys2Proof/Machine/Ops.lean ====
section
/-! DEFINITION. The primitives of 00_scope.md R11, the reads and writes of registers, the two ends of a command (success,
60_exceptions.md R213, and `raise Err(c)`, R212), the acceptance of a command and reset. -/

namespace Sys2Proof.Machine

/-! ### Exact arithmetic (00_scope.md R11) -/

/-- `sint(v)`: the signed two's-complement value. -/
def sint (v : Word) : Int := v.toInt

/-- `uint(v)`: the unsigned value. -/
def uint (v : Word) : Nat := v.toNat

/-- `bits128(n)`: the pattern `n mod 2^128`. -/
def bits128 (n : Int) : Word := BitVec.ofInt 128 n

/-- `fits(n)`: −2^127 ≤ n ≤ 2^127 − 1. -/
def fits (n : Int) : Bool := decide (-(2 ^ 127) ≤ n) && decide (n ≤ 2 ^ 127 - 1)

/-- `fdiv(n, d)`: floor(n / d). -/
def fdiv (n d : Int) : Int := Int.fdiv n d

/-- `tdiv(n, d)`: n / d toward zero. -/
def tdiv (n d : Int) : Int := Int.tdiv n d

/-! ### Registers -/

/-- `N[r]` as bits (10_state.md R21). -/
def State.num (s : State) (r : NumReg) : Word := s.nums[r]

/-- `sint(N[r])`, the `a` and `b` of the command rules. -/
def State.numInt (s : State) (r : NumReg) : Int := sint (s.num r)

/-- F, the value of CFG.F when it is used (00_scope.md R13). In a state no run reaches it may be illegal, and the
rules' formulas then apply as they stand (DESIGN CHOICE, log entry 9). -/
def State.fracBits (s : State) : Nat := s.cfg.f.toNat

/-- `N[r] <- v`. -/
def State.setNum (r : NumReg) (v : Word) (s : State) : State := { s with nums := s.nums.set r v }

/-- `RES <- v` (10_state.md R25). -/
def State.setRes (v : Word) (s : State) : State := { s with res := v }

/-- `STATUS.ERR <- 0`; STICKY and CMP unchanged (60_exceptions.md R213). -/
def State.noError (s : State) : State := { s with status := { s.status with err := .none } }

/-- STATUS.ERR <- c and STATUS.STICKY <- 1; CMP unchanged (60_exceptions.md R212). -/
def State.withError (c : ErrCode) (s : State) : State := { s with status := { s.status with err := c, sticky := true } }

/-! ### The ends of a command -/

/-- `raise Err(c)`, 60_exceptions.md R212, R216: the command ends with its code in STATUS and no other effect. An error is no
trap: nothing is saved and nothing is returned from. -/
def raiseErr (c : ErrCode) (s : State) : Outcome := .next (s.withError c)

/-- Success, 60_exceptions.md R213: the command's writes stand in `s`; then STATUS.ERR <- 0. -/
def succeed (s : State) : Outcome := .next s.noError

/-- A command that succeeds with `N[rd] <- v`. -/
def writeNum (rd : NumReg) (v : Word) (s : State) : Outcome := succeed (s.setNum rd v)

/-- A command that succeeds with `RES <- v`. -/
def writeRes (v : Word) (s : State) : Outcome := succeed (s.setRes v)

/-- `if not fits(v): raise Err(c)`, else `N[rd] <- bits128(v)`: the end of every command whose exact result is checked
(41_addsub.md, the overflow policy). -/
def writeNumIfFits (c : ErrCode) (rd : NumReg) (v : Int) (s : State) : Outcome :=
  if fits v then writeNum rd (bits128 v) s else raiseErr c s

/-! ### The command port (10_state.md R35) -/

/-- A command is accepted: its buses are sampled with it (20_memory.md R53) and the command index advances by one
(10_state.md R24), whether the command succeeds or fails. -/
def State.accept (c : Command) (s : State) : State := { s with opa := c.opa, opb := c.opb, index := s.index + 1 }

/-- Reset through `rst_i` (70_reset_and_hazards.md R230, R231): every piece of state takes its reset value and a command in
progress is abandoned. The implementation parameter is no state (10_state.md R34) and stays, and so does what the host drives
next; the command index starts again at 0 (DESIGN CHOICE, log entries 3 and 11). -/
def State.doReset (s : State) : State := { State.reset with imaxSlack := s.imaxSlack, pending := s.pending }

/-- `res_o`: the current value of RES (10_state.md R35). -/
def State.resO (s : State) : Word := s.res

/-- `cmd_ready_o` (10_state.md R35): between two commands the unit is ready, also right after reset (70_reset_and_hazards.md
R231). The cycles in which it is not are the latency, which is not modelled (R238; log entry 10). -/
def State.cmdReadyO (_s : State) : Bool := true

end Sys2Proof.Machine
end

