-- ==== Sys2Proof/Machine/Flags.lean ====
section
/-! DEFINITION. The flag CMP computes, and the control registers as the 32-bit words CSRR and `status_o` show: CFG
(10_state.md R27), STATUS (R29) and ID (R30). -/

namespace Sys2Proof.Machine

/-- The number of an error code (60_exceptions.md R211). -/
def errCode (c : ErrCode) : BitVec 4 :=
  match c with
  | .none => 0
  | .constructionOverflow => 1
  | .nonFiniteOperand => 2
  | .unrepresentableConversion => 3
  | .notImplemented => 4
  | .arithOverflow => 5
  | .divideByZero => 6
  | .shiftRange => 7
  | .illegalOperation => 8

/-- The number of a value of STATUS.CMP (10_state.md R29). -/
def cmpCode (c : CmpFlag) : BitVec 2 :=
  match c with
  | .eq => 0
  | .lt => 1
  | .gt => 2
  | .none => 3

/-- CFG.RM as a bit (10_state.md R27). -/
def rmBit (m : RoundMode) : BitVec 1 :=
  match m with
  | .biased => 0
  | .trunc => 1

/-- CFG.DR as a bit (10_state.md R27). -/
def drBit (d : DivRound) : BitVec 1 :=
  match d with
  | .towardZero => 0
  | .towardNegInf => 1

/-- The number an implementation's IMAX_SLACK is (00_scope.md R8). -/
def slackNat (k : ImaxSlack) : Nat :=
  match k with
  | .one => 1
  | .two => 2

/-- CMP's flag: `(a == b) ? EQ : (a < b) ? LT : GT` on the signed values (44_compare_convert.md R190). -/
def compareFlag (a b : Int) : CmpFlag := if a = b then .eq else if a < b then .lt else .gt

/-- The word of CFG: F in 6:0, RM in 8, DR in 9, the rest 0 (10_state.md R27). -/
def cfgWord (c : Cfg) : BitVec 32 := 0#22 ++ drBit c.dr ++ rmBit c.rm ++ 0#1 ++ c.f

/-- The word of STATUS: ERR in 3:0, STICKY in 4, CMP in 6:5, the rest 0 (10_state.md R29). -/
def statusWord (t : Status) : BitVec 32 := 0#25 ++ cmpCode t.cmp ++ BitVec.ofBool t.sticky ++ errCode t.err

/-- The word of ID: NREG_LOG2 = 3, IMAX_SLACK, F_MAX = 64, F_MIN = 1, NUM_BITS = 128 (10_state.md R30). -/
def idWord (k : ImaxSlack) : BitVec 32 := 3#4 ++ BitVec.ofNat 4 (slackNat k) ++ 0x40#8 ++ 0x01#8 ++ 0x80#8

/-- The control register of an index, 0 CFG, 1 STATUS, 2 ID; 3 to 7 are reserved (10_state.md R26). -/
def csrWord (csr : CsrIndex) (s : State) : Option (BitVec 32) :=
  if csr.val = 0 then some (cfgWord s.cfg)
  else if csr.val = 1 then some (statusWord s.status)
  else if csr.val = 2 then some (idWord s.imaxSlack)
  else none

/-- `status_o`: the current value of STATUS (10_state.md R35). -/
def State.statusO (s : State) : BitVec 32 := statusWord s.status

end Sys2Proof.Machine
end

