-- ==== Sys2Proof/Machine/Operands.lean ====
section
/-! DEFINITION. The operand forms of 30_encoding.md R77, the construction bound (40_construct.md R100), the constant tables
(R103), the value of a binary64 pattern (44_compare_convert.md R198), the two float encodings (40_construct.md R110, R111), the
division rounding (42_muldiv.md R163) and the conversion to binary64 (44_compare_convert.md R199).

Exact rationals. Every finite binary64 value is an integer multiple of 2^−1074, the smallest subnormal, so a float operand is
held as that integer, its count of UNITS: x = units / 2^1074 exactly (00_scope.md R14; DEDUCED, log entry 12). -/

namespace Sys2Proof.Machine

/-! ### The operand buses (30_encoding.md R77) -/

/-- `sint(OPA)`. -/
def opaInt (s : State) : Int := sint s.opa

/-- `uint(OPA)`. -/
def opaUint (s : State) : Nat := uint s.opa

/-- `uint(OPB)`, NEW's fraction bits. -/
def opbUint (s : State) : Nat := uint s.opb

/-- `OPA[63:0]`, a binary64 pattern (30_encoding.md R78) or FRACONLY's fraction; OPA[127:64] is ignored. -/
def opaLow64 (s : State) : BitVec 64 := s.opa.extractLsb' 0 64

/-! ### Construction -/

/-- IMAX(F) = 2^(127−F) − IMAX_SLACK (00_scope.md R8). -/
def imax (k : ImaxSlack) (f : Nat) : Int := 2 ^ (127 - f) - (slackNat k : Int)

/-- `ctor_ok(i)`: |i| ≤ IMAX(F), the magnitude exact (40_construct.md R100). -/
def ctorOk (s : State) (i : Int) : Bool := decide ((i.natAbs : Int) ≤ imax s.imaxSlack s.fracBits)

/-- PI64 = floor(pi × 2^64) (40_construct.md R103). -/
def pi64 : Nat := 0x3243F6A8885A308D3

/-- E64 = floor(e × 2^64) (40_construct.md R103). -/
def e64 : Nat := 0x2B7E151628AED2A6A

/-! ### Binary64 operands -/

/-- What a binary64 pattern stands for (44_compare_convert.md R198). -/
inductive F64 where
  /-- NaN: its payload and sign are never looked at. -/
  | nan
  /-- (−1)^s × infinity. -/
  | infinity (negative : Bool)
  /-- The finite value `units / 2^1074`. -/
  | finite (units : Int)
deriving DecidableEq, Repr

/-- The units in 1: 2^1074, written as a shift. -/
def f64Scale : Nat := 1 <<< 1074

/-- `f64value(p)` (44_compare_convert.md R198): m × 2^−1074 is m units, and (2^52 + m) × 2^(e−1075) is
(2^52 + m) × 2^(e−1) units, a shift by e − 1. -/
def f64value (p : BitVec 64) : F64 :=
  let sgn := p.getLsbD 63
  let e := (p.extractLsb' 52 11).toNat
  let m := (p.extractLsb' 0 52).toNat
  if e = 0x7FF then
    if m ≠ 0 then .nan else .infinity sgn
  else
    let mag : Nat := if e = 0 then m else (2 ^ 52 + m) <<< (e - 1)
    .finite (if sgn then -(mag : Int) else (mag : Int))

/-- `trunc(x)`, toward zero, for x = units / 2^1074 (00_scope.md R11). -/
def truncUnits (x : Int) : Int := tdiv x f64Scale

/-- `x − trunc(x)` in units: exact, of magnitude below 2^1074, with the sign of x or 0 (40_construct.md R110). -/
def remUnits (x : Int) : Int := x - truncUnits x * f64Scale

/-- fu = floor((|rem| + 2^−(F+1)) × 2^F) (40_construct.md R110); with |rem| = r / 2^1074 it is
floor((r × 2^(F+1) + 2^1074) / 2^1075). -/
def fracBiased (x : Int) (f : Nat) : Nat := ((remUnits x).natAbs * 2 ^ (f + 1) + f64Scale) / (2 * f64Scale)

/-- fu = floor(|rem| × 2^F) (40_construct.md R111). -/
def fracTrunc (x : Int) (f : Nat) : Nat := ((remUnits x).natAbs * 2 ^ f) / f64Scale

/-- `ip × 2^F + (x >= 0 ? fu : −fu)`, the last line of 40_construct.md R110 and R111. -/
def signedSplit (x : Int) (f fu : Nat) : Int :=
  truncUnits x * 2 ^ f + (if 0 ≤ x then (fu : Int) else -(fu : Int))

/-- `enc_biased(x, F)` (40_construct.md R110). -/
def encBiased (x : Int) (f : Nat) : Int := signedSplit x f (fracBiased x f)

/-- `enc_trunc(x, F)` (40_construct.md R111). -/
def encTrunc (x : Int) (f : Nat) : Int := signedSplit x f (fracTrunc x f)

/-! ### Rounding of DIV -/

/-- `rnd_DR(n, d)` (42_muldiv.md R163). -/
def rndDr (dr : DivRound) (n d : Int) : Int :=
  match dr with
  | .towardZero => tdiv n d
  | .towardNegInf => fdiv n d

/-! ### Conversion to binary64 -/

/-- `f64bits_rtn(q)` for q = a / 2^F (44_compare_convert.md R199). With L = floor(log2|a|), E = L − F, and |q| × 2^(52−E) is
|a| × 2^52 / 2^L, whose floor or ceiling is M. -/
def f64bitsRtn (a : Int) (f : Nat) : BitVec 64 :=
  if a = 0 then 0
  else
    let l := a.natAbs.log2
    let e : Int := (l : Int) - (f : Int)
    let m : Nat := if 0 ≤ a then (a.natAbs * 2 ^ 52) / 2 ^ l else (a.natAbs * 2 ^ 52 + (2 ^ l - 1)) / 2 ^ l
    let sgn := BitVec.ofBool (decide (a < 0))
    if m = 2 ^ 53 then sgn ++ BitVec.ofInt 11 (e + 1 + 1023) ++ 0#52
    else sgn ++ BitVec.ofInt 11 (e + 1023) ++ BitVec.ofNat 52 (m - 2 ^ 52)

end Sys2Proof.Machine
end

