-- ==== Sys2Proof/Machine/AddSub.lean ====
section
/-! DEFINITION. The additive family (41_addsub.md R140–R147). Every result is an exact integer; one outside the signed 128-bit
range raises ARITH_OVERFLOW and writes nothing. -/

namespace Sys2Proof.Machine

/-- ADD (41_addsub.md R140): a + b. -/
def execAdd (rd rs1 rs2 : NumReg) (s : State) : Outcome :=
  writeNumIfFits .arithOverflow rd (s.numInt rs1 + s.numInt rs2) s

/-- SUB (41_addsub.md R141): a − b. -/
def execSub (rd rs1 rs2 : NumReg) (s : State) : Outcome :=
  writeNumIfFits .arithOverflow rd (s.numInt rs1 - s.numInt rs2) s

/-- ADDI (41_addsub.md R142): the scaled operand is checked before the sum. -/
def execAddi (rd rs1 : NumReg) (s : State) : Outcome :=
  if fits (opaInt s * 2 ^ s.fracBits) = false then raiseErr .arithOverflow s
  else writeNumIfFits .arithOverflow rd (s.numInt rs1 + opaInt s * 2 ^ s.fracBits) s

/-- SUBI (41_addsub.md R143): the scaled operand is checked before the difference. -/
def execSubi (rd rs1 : NumReg) (s : State) : Outcome :=
  if fits (opaInt s * 2 ^ s.fracBits) = false then raiseErr .arithOverflow s
  else writeNumIfFits .arithOverflow rd (s.numInt rs1 - opaInt s * 2 ^ s.fracBits) s

/-- ADDF (41_addsub.md R144): the biased encoding whatever CFG.RM holds, checked before the sum. -/
def execAddf (rd rs1 : NumReg) (s : State) : Outcome :=
  match f64value (opaLow64 s) with
  | .nan => raiseErr .nonFiniteOperand s
  | .infinity _ => raiseErr .nonFiniteOperand s
  | .finite x =>
    if fits (encBiased x s.fracBits) = false then raiseErr .arithOverflow s
    else writeNumIfFits .arithOverflow rd (s.numInt rs1 + encBiased x s.fracBits) s

/-- SUBF (41_addsub.md R145): as ADDF, with the encoded operand subtracted. The checks are the
pseudocode's, not the remark's that SUBF of x is ADDF of −x (DEDUCED, log entry 6). -/
def execSubf (rd rs1 : NumReg) (s : State) : Outcome :=
  match f64value (opaLow64 s) with
  | .nan => raiseErr .nonFiniteOperand s
  | .infinity _ => raiseErr .nonFiniteOperand s
  | .finite x =>
    if fits (encBiased x s.fracBits) = false then raiseErr .arithOverflow s
    else writeNumIfFits .arithOverflow rd (s.numInt rs1 - encBiased x s.fracBits) s

/-- NEG (41_addsub.md R147): 0 − a. -/
def execNeg (rd rs1 : NumReg) (s : State) : Outcome := writeNumIfFits .arithOverflow rd (0 - s.numInt rs1) s

end Sys2Proof.Machine
end

