-- ==== Sys2Proof/Machine/Construct.lean ====
section
/-! DEFINITION. The construction family (40_construct.md R101–R115): constants, constructors, conversions from native
operands, the raw load and the copy. -/

namespace Sys2Proof.Machine

/-- LDZERO (40_construct.md R101): `N[rd] <- bits128(0)`. -/
def execLdzero (rd : NumReg) (s : State) : Outcome := writeNum rd (bits128 0) s

/-- LDONE (40_construct.md R102): `N[rd] <- bits128(2^F)`. -/
def execLdone (rd : NumReg) (s : State) : Outcome := writeNum rd (bits128 (2 ^ s.fracBits)) s

/-- LDPI (40_construct.md R104): `N[rd] <- bits128(PI64 >> (64 − F))`. -/
def execLdpi (rd : NumReg) (s : State) : Outcome := writeNum rd (bits128 ((pi64 >>> (64 - s.fracBits) : Nat) : Int)) s

/-- LDE (40_construct.md R105): `N[rd] <- bits128(E64 >> (64 − F))`. -/
def execLde (rd : NumReg) (s : State) : Outcome := writeNum rd (bits128 ((e64 >>> (64 - s.fracBits) : Nat) : Int)) s

/-- LDHPI (40_construct.md R106): `N[rd] <- bits128(PI64 >> (65 − F))`. -/
def execLdhpi (rd : NumReg) (s : State) : Outcome := writeNum rd (bits128 ((pi64 >>> (65 - s.fracBits) : Nat) : Int)) s

/-- NEW (40_construct.md R107): the integer bound, then the fraction range, then `N[rd] <- bits128(i × 2^F + f)`. -/
def execNew (rd : NumReg) (s : State) : Outcome :=
  if ctorOk s (opaInt s) = false then raiseErr .constructionOverflow s
  else if 2 ^ s.fracBits ≤ opbUint s then raiseErr .constructionOverflow s
  else writeNum rd (bits128 (opaInt s * 2 ^ s.fracBits + (opbUint s : Int))) s

/-- FROMI (40_construct.md R108). -/
def execFromi (rd : NumReg) (s : State) : Outcome :=
  if ctorOk s (opaInt s) = false then raiseErr .constructionOverflow s
  else writeNum rd (bits128 (opaInt s * 2 ^ s.fracBits)) s

/-- FROMU (40_construct.md R109): the signed container first, then the construction bound. -/
def execFromu (rd : NumReg) (s : State) : Outcome :=
  if 2 ^ 127 ≤ opaUint s then raiseErr .unrepresentableConversion s
  else if ctorOk s (opaUint s : Int) = false then raiseErr .constructionOverflow s
  else writeNum rd (bits128 ((opaUint s : Int) * 2 ^ s.fracBits)) s

/-- The encoding CFG.RM selects for FROMF (40_construct.md R112). -/
def encByMode (rm : RoundMode) (x : Int) (f : Nat) : Int :=
  match rm with
  | .biased => encBiased x f
  | .trunc => encTrunc x f

/-- FROMF (40_construct.md R112). The last check, which R112 derives can never fire at a legal F, stands as the rule has it;
the codes are the pseudocode's also where the remark compares FROMF with ADDF to zero (DEDUCED, log entry 8). -/
def execFromf (rd : NumReg) (s : State) : Outcome :=
  match f64value (opaLow64 s) with
  | .nan => raiseErr .nonFiniteOperand s
  | .infinity _ => raiseErr .nonFiniteOperand s
  | .finite x =>
    if ctorOk s (truncUnits x) = false then raiseErr .constructionOverflow s
    else writeNumIfFits .constructionOverflow rd (encByMode s.cfg.rm x s.fracBits) s

/-- FRACONLY (40_construct.md R113): `N[rd] <- bits128(v >> (64 − F))`, v = `uint(OPA[63:0])`. -/
def execFraconly (rd : NumReg) (s : State) : Outcome :=
  writeNum rd (bits128 (((opaLow64 s).toNat >>> (64 - s.fracBits) : Nat) : Int)) s

/-- LDRAW (40_construct.md R114): `N[rd] <- OPA`. -/
def execLdraw (rd : NumReg) (s : State) : Outcome := writeNum rd s.opa s

/-- MOV (40_construct.md R115): `N[rd] <- N[rs1]`. -/
def execMov (rd rs1 : NumReg) (s : State) : Outcome := writeNum rd (s.num rs1) s

end Sys2Proof.Machine
end

