-- ==== Sys2Proof/Machine/Control.lean ====
section
/-! DEFINITION. The control commands (45_control.md R200–R203) and the illegal word (30_encoding.md R75). -/

namespace Sys2Proof.Machine

/-- NOP (45_control.md R200): nothing but STATUS.ERR <- 0. -/
def execNop (s : State) : Outcome := succeed s

/-- The new CFG value is legal (45_control.md R201): bits 127:32, 31:10 and 7 zero, and F in 1..64. -/
def cfgValueLegal (v : Word) : Bool :=
  v.extractLsb' 32 96 == 0 && v.extractLsb' 10 22 == 0 && v.extractLsb' 7 1 == 0
    && decide (1 ≤ (v.extractLsb' 0 7).toNat) && decide ((v.extractLsb' 0 7).toNat ≤ 64)

/-- CFG.F <- v[6:0]; CFG.RM <- v[8]; CFG.DR <- v[9] (45_control.md R201). -/
def cfgOfValue (v : Word) : Cfg :=
  { f := v.extractLsb' 0 7
    rm := if v.getLsbD 8 then .trunc else .biased
    dr := if v.getLsbD 9 then .towardNegInf else .towardZero }

/-- CFGW (45_control.md R201): an illegal value is refused whole; no register is rescaled (10_state.md R28). -/
def execCfgw (s : State) : Outcome :=
  if cfgValueLegal s.opa then succeed { s with cfg := cfgOfValue s.opa } else raiseErr .illegalOperation s

/-- CSRR (45_control.md R202): `RES <- zext_128(CSR[csr])`, STATUS as the previous command left it; a reserved index raises
ILLEGAL_OPERATION. -/
def execCsrr (csr : CsrIndex) (s : State) : Outcome :=
  match csrWord csr s with
  | some w => writeRes (w.setWidth 128) s
  | none => raiseErr .illegalOperation s

/-- CLRST (45_control.md R203): ERR <- 0, STICKY <- 0, CMP <- 3. -/
def execClrst (s : State) : Outcome := succeed { s with status := { err := .none, sticky := false, cmp := .none } }

/-- An illegal command word (30_encoding.md R75, 60_exceptions.md R214): only STATUS changes. -/
def execIllegal (s : State) : Outcome := raiseErr .illegalOperation s

end Sys2Proof.Machine
end

