-- ==== Sys2Proof/Machine/Convert.lean ====
section
/-! DEFINITION. Comparison, conversions out and the raw readout (44_compare_convert.md R190–R193). None of them writes a Num
register and none raises an error. -/

namespace Sys2Proof.Machine

/-- CMP (44_compare_convert.md R190): the result goes to STATUS.CMP. -/
def execCmp (rs1 rs2 : NumReg) (s : State) : Outcome :=
  succeed { s with status := { s.status with cmp := compareFlag (s.numInt rs1) (s.numInt rs2) } }

/-- TOI (44_compare_convert.md R191): `RES <- bits128(fdiv(a, 2^F))`. -/
def execToi (rs1 : NumReg) (s : State) : Outcome := writeRes (bits128 (fdiv (s.numInt rs1) (2 ^ s.fracBits))) s

/-- TOF (44_compare_convert.md R192): `RES <- zext_128(f64bits_rtn(a / 2^F))`. -/
def execTof (rs1 : NumReg) (s : State) : Outcome := writeRes ((f64bitsRtn (s.numInt rs1) s.fracBits).setWidth 128) s

/-- RDRAW (44_compare_convert.md R193): `RES <- N[rs1]`. -/
def execRdraw (rs1 : NumReg) (s : State) : Outcome := writeRes (s.num rs1) s

end Sys2Proof.Machine
end

