-- ==== Sys2Proof/Machine/MulDiv.lean ====
section
/-! DEFINITION. The multiplicative family (42_muldiv.md R160–R164). Products and widened dividends are exact integers. -/

namespace Sys2Proof.Machine

/-- MUL (42_muldiv.md R160): the exact product shifted right by F, toward negative infinity. -/
def execMul (rd rs1 rs2 : NumReg) (s : State) : Outcome :=
  writeNumIfFits .arithOverflow rd (fdiv (s.numInt rs1 * s.numInt rs2) (2 ^ s.fracBits)) s

/-- MULI (42_muldiv.md R161): the integer is not scaled by 2^F. -/
def execMuli (rd rs1 : NumReg) (s : State) : Outcome :=
  writeNumIfFits .arithOverflow rd (fdiv (s.numInt rs1 * opaInt s) (2 ^ s.fracBits)) s

/-- MULF (42_muldiv.md R162): the truncating encoding whatever CFG.RM holds, checked before the product. -/
def execMulf (rd rs1 : NumReg) (s : State) : Outcome :=
  match f64value (opaLow64 s) with
  | .nan => raiseErr .nonFiniteOperand s
  | .infinity _ => raiseErr .nonFiniteOperand s
  | .finite x =>
    if fits (encTrunc x s.fracBits) = false then raiseErr .arithOverflow s
    else writeNumIfFits .arithOverflow rd (fdiv (s.numInt rs1 * encTrunc x s.fracBits) (2 ^ s.fracBits)) s

/-- DIV (42_muldiv.md R164): the divisor's check first, then the dividend scaled by 2^F and rounded as CFG.DR says.
The overflow check is on the rounded quotient (DEDUCED, log entry 7). -/
def execDiv (rd rs1 rs2 : NumReg) (s : State) : Outcome :=
  if s.numInt rs2 = 0 then raiseErr .divideByZero s
  else writeNumIfFits .arithOverflow rd (rndDr s.cfg.dr (s.numInt rs1 * 2 ^ s.fracBits) (s.numInt rs2)) s

end Sys2Proof.Machine
end

