-- ==== Sys2Proof/Machine/ShiftFloor.lean ====
section
/-! DEFINITION. Shifts and floor (43_shift_floor.md R180–R182). The count is the whole of `uint(OPA)`, never reduced. -/

namespace Sys2Proof.Machine

/-- SHL (43_shift_floor.md R180): the range of the count first, then a × 2^n checked. -/
def execShl (rd rs1 : NumReg) (s : State) : Outcome :=
  if 127 ≤ opaUint s then raiseErr .shiftRange s
  else writeNumIfFits .arithOverflow rd (s.numInt rs1 * 2 ^ opaUint s) s

/-- SHR (43_shift_floor.md R181): floor(a / 2^n). -/
def execShr (rd rs1 : NumReg) (s : State) : Outcome :=
  if 127 ≤ opaUint s then raiseErr .shiftRange s
  else writeNum rd (bits128 (fdiv (s.numInt rs1) (2 ^ opaUint s))) s

/-- FLOOR (43_shift_floor.md R182): floor(a / 2^F) × 2^F. -/
def execFloor (rd rs1 : NumReg) (s : State) : Outcome :=
  writeNum rd (bits128 (fdiv (s.numInt rs1) (2 ^ s.fracBits) * 2 ^ s.fracBits)) s

end Sys2Proof.Machine
end

