-- ==== Sys2Proof/Machine/Dispatch.lean ====
section
/-! DEFINITION. The meaning of each command of the opcode map (30_encoding.md R74), one arm each. -/

namespace Sys2Proof.Machine

def exec (i : Instr) (s : State) : Host.Outcome State Fault Refusal :=
  match i with
  | .nop => Sys2Proof.Machine.execNop s
  | .ldzero rd => Sys2Proof.Machine.execLdzero rd s
  | .ldone rd => Sys2Proof.Machine.execLdone rd s
  | .ldpi rd => Sys2Proof.Machine.execLdpi rd s
  | .lde rd => Sys2Proof.Machine.execLde rd s
  | .ldhpi rd => Sys2Proof.Machine.execLdhpi rd s
  | .new rd => Sys2Proof.Machine.execNew rd s
  | .fromi rd => Sys2Proof.Machine.execFromi rd s
  | .fromu rd => Sys2Proof.Machine.execFromu rd s
  | .fromf rd => Sys2Proof.Machine.execFromf rd s
  | .fraconly rd => Sys2Proof.Machine.execFraconly rd s
  | .ldraw rd => Sys2Proof.Machine.execLdraw rd s
  | .mov rd rs1 => Sys2Proof.Machine.execMov rd rs1 s
  | .add rd rs1 rs2 => Sys2Proof.Machine.execAdd rd rs1 rs2 s
  | .sub rd rs1 rs2 => Sys2Proof.Machine.execSub rd rs1 rs2 s
  | .addi rd rs1 => Sys2Proof.Machine.execAddi rd rs1 s
  | .subi rd rs1 => Sys2Proof.Machine.execSubi rd rs1 s
  | .addf rd rs1 => Sys2Proof.Machine.execAddf rd rs1 s
  | .subf rd rs1 => Sys2Proof.Machine.execSubf rd rs1 s
  | .neg rd rs1 => Sys2Proof.Machine.execNeg rd rs1 s
  | .mul rd rs1 rs2 => Sys2Proof.Machine.execMul rd rs1 rs2 s
  | .muli rd rs1 => Sys2Proof.Machine.execMuli rd rs1 s
  | .mulf rd rs1 => Sys2Proof.Machine.execMulf rd rs1 s
  | .div rd rs1 rs2 => Sys2Proof.Machine.execDiv rd rs1 rs2 s
  | .shl rd rs1 => Sys2Proof.Machine.execShl rd rs1 s
  | .shr rd rs1 => Sys2Proof.Machine.execShr rd rs1 s
  | .floor rd rs1 => Sys2Proof.Machine.execFloor rd rs1 s
  | .cmp rs1 rs2 => Sys2Proof.Machine.execCmp rs1 rs2 s
  | .toi rs1 => Sys2Proof.Machine.execToi rs1 s
  | .tof rs1 => Sys2Proof.Machine.execTof rs1 s
  | .rdraw rs1 => Sys2Proof.Machine.execRdraw rs1 s
  | .cfgw => Sys2Proof.Machine.execCfgw s
  | .csrr csr => Sys2Proof.Machine.execCsrr csr s
  | .clrst => Sys2Proof.Machine.execClrst s

end Sys2Proof.Machine
end

