-- ==== Sys2Proof/Machine/Port.lean ====
section
/-! DEFINITION. What the unit does with what the host drives on its input ports (10_state.md R35): reset, a command, or
nothing; and how the host offers a command. -/

namespace Sys2Proof.Machine

/-- An accepted command: decoded from its word alone (30_encoding.md R70, R80), then performed whole; an illegal word raises
ILLEGAL_OPERATION before every other check (60_exceptions.md R214). -/
def runCommand (c : Command) (s : State) : Outcome :=
  match decode c.word with
  | .ok i => exec i (s.accept c)
  | .error _ => execIllegal (s.accept c)

/-- One sample of the input ports: reset wins over everything (70_reset_and_hazards.md R230); a valid command is accepted, since
the unit is ready between commands; otherwise the unit holds its state (60_exceptions.md R219). -/
def servePort (p : PortIn) (s : State) : Outcome :=
  if p.rst then .next s.doReset
  else if p.valid then runCommand p.cmd s
  else .next s

/-- The host offers a command. -/
def offer (c : Command) : PortIn := { rst := false, valid := true, cmd := c }

/-- The host asserts reset, whatever else it drives. -/
def assertReset (valid : Bool) (c : Command) : PortIn := { rst := true, valid := valid, cmd := c }

/-- The host puts `p` on the ports before everything it was going to drive. -/
def State.drive (p : PortIn) (s : State) : State := { s with pending := p :: s.pending }

end Sys2Proof.Machine
end

