-- ==== Sys2Proof/Machine/Step.lean ====
section
/-! DEFINITION. One step of the machine: the unit takes the next sample of its input ports. One step per command and no time
(70_reset_and_hazards.md R238). -/

namespace Sys2Proof.Machine

/-- One step. With nothing driven on the ports the unit waits and holds its state (70_reset_and_hazards.md R231). -/
def step (s : State) : Host.Outcome State Fault Refusal :=
  match s.pending with
  | [] => .next s
  | p :: rest => servePort p { s with pending := rest }

/-- The host offers the table's word `w` next, with both operand buses zero (the bits above `nbits` are zero). -/
def State.withFetchWord (s : State) (nbits w : Nat) : State :=
  s.drive (offer { word := tableWord nbits w, opa := 0, opb := 0 })

end Sys2Proof.Machine
end

