-- ==== Sys2Proof/Safety.lean ====
section
/-! DEFINITION. The terms the statements use: the invariant of a reachable state, the frames of the three ways a command ends,
what each command may write, read and raise according to the tables of the spec, and the exact rational reading of the float
rules. -/

namespace Sys2Proof.Machine

/-! ### The invariant -/

/-- CFG.F is legal (10_state.md R27, R28: "Its legal range is 1 ≤ F ≤ 64", 00_scope.md R7). -/
abbrev State.LegalF (s : State) : Prop := 1 ≤ s.fracBits ∧ s.fracBits ≤ 64

/-- What holds in every state a run can reach: F is legal (10_state.md R28), STATUS.ERR is never NOT_IMPLEMENTED
(60_exceptions.md R211), and an error code comes with STICKY set (R212, 10_state.md R31). -/
abbrev State.Inv (s : State) : Prop :=
  s.LegalF ∧ s.status.err ≠ .notImplemented ∧ (s.status.err ≠ .none → s.status.sticky = true)

/-! ### Frames -/

/-- The implementation parameter, the sampled buses, the command index and the host's future inputs are unchanged. -/
def SameInputs (s t : State) : Prop :=
  t.imaxSlack = s.imaxSlack ∧ t.opa = s.opa ∧ t.opb = s.opb ∧ t.index = s.index ∧ t.pending = s.pending

/-- STATUS after a success: ERR = 0, STICKY and CMP unchanged (60_exceptions.md R213). -/
def StatusSuccess (s t : State) : Prop :=
  t.status.err = .none ∧ t.status.sticky = s.status.sticky ∧ t.status.cmp = s.status.cmp

/-- A success that wrote at most `N[rd]`: every other Num register, RES and CFG are unchanged. -/
def NumFrame (rd : NumReg) (s t : State) : Prop :=
  (∀ r : NumReg, r ≠ rd → t.num r = s.num r) ∧ t.res = s.res ∧ t.cfg = s.cfg ∧ StatusSuccess s t ∧ SameInputs s t

/-- A success that wrote at most RES: every Num register and CFG are unchanged. -/
def ResFrame (s t : State) : Prop :=
  (∀ r : NumReg, t.num r = s.num r) ∧ t.cfg = s.cfg ∧ StatusSuccess s t ∧ SameInputs s t

/-- A failure with code `c` (60_exceptions.md R212): no Num register, RES or CFG is written, ERR = c, STICKY = 1, CMP
unchanged. -/
def FailedWith (c : ErrCode) (s t : State) : Prop :=
  (∀ r : NumReg, t.num r = s.num r) ∧ t.res = s.res ∧ t.cfg = s.cfg ∧
    t.status.err = c ∧ t.status.sticky = true ∧ t.status.cmp = s.status.cmp ∧ SameInputs s t

/-- The signed 128-bit range [−2^127, 2^127 − 1]. -/
def InRange (v : Int) : Prop := -(2 ^ 127) ≤ v ∧ v < 2 ^ 127

/-- The number `w` shows the status `t` bit for bit, with the numbers of the error codes (60_exceptions.md R211) and of STATUS.CMP
(10_state.md R29) as those rules list them: ERR in 3:0, STICKY in 4, CMP in 6:5, and nothing above. -/
def ShowsStatus (w : ℕ) (t : Status) : Prop :=
  w < 2 ^ 7 ∧
  ((t.err = .none ↔ w % 2 ^ 4 = 0) ∧ (t.err = .constructionOverflow ↔ w % 2 ^ 4 = 1) ∧
    (t.err = .nonFiniteOperand ↔ w % 2 ^ 4 = 2) ∧ (t.err = .unrepresentableConversion ↔ w % 2 ^ 4 = 3) ∧
    (t.err = .notImplemented ↔ w % 2 ^ 4 = 4) ∧ (t.err = .arithOverflow ↔ w % 2 ^ 4 = 5) ∧
    (t.err = .divideByZero ↔ w % 2 ^ 4 = 6) ∧ (t.err = .shiftRange ↔ w % 2 ^ 4 = 7) ∧
    (t.err = .illegalOperation ↔ w % 2 ^ 4 = 8)) ∧
  (t.sticky = true ↔ w / 2 ^ 4 % 2 = 1) ∧
  ((t.cmp = .eq ↔ w / 2 ^ 5 = 0) ∧ (t.cmp = .lt ↔ w / 2 ^ 5 = 1) ∧ (t.cmp = .gt ↔ w / 2 ^ 5 = 2) ∧
    (t.cmp = .none ↔ w / 2 ^ 5 = 3))

/-! ### What a command writes, reads and raises, by the spec's tables -/

/-- The Num register a command names as its destination (30_encoding.md R74, operand column). -/
def destReg (i : Instr) : Option NumReg :=
  match i with
  | .nop => none
  | .ldzero rd => some rd
  | .ldone rd => some rd
  | .ldpi rd => some rd
  | .lde rd => some rd
  | .ldhpi rd => some rd
  | .new rd => some rd
  | .fromi rd => some rd
  | .fromu rd => some rd
  | .fromf rd => some rd
  | .fraconly rd => some rd
  | .ldraw rd => some rd
  | .mov rd _ => some rd
  | .add rd _ _ => some rd
  | .sub rd _ _ => some rd
  | .addi rd _ => some rd
  | .subi rd _ => some rd
  | .addf rd _ => some rd
  | .subf rd _ => some rd
  | .neg rd _ => some rd
  | .mul rd _ _ => some rd
  | .muli rd _ => some rd
  | .mulf rd _ => some rd
  | .div rd _ _ => some rd
  | .shl rd _ => some rd
  | .shr rd _ => some rd
  | .floor rd _ => some rd
  | .cmp _ _ => none
  | .toi _ => none
  | .tof _ => none
  | .rdraw _ => none
  | .cfgw => none
  | .csrr _ => none
  | .clrst => none

/-- The same command with destination `rd` instead of its own; a command without a destination is itself. -/
def retarget (rd : NumReg) (i : Instr) : Instr :=
  match i with
  | .nop => .nop
  | .ldzero _ => .ldzero rd
  | .ldone _ => .ldone rd
  | .ldpi _ => .ldpi rd
  | .lde _ => .lde rd
  | .ldhpi _ => .ldhpi rd
  | .new _ => .new rd
  | .fromi _ => .fromi rd
  | .fromu _ => .fromu rd
  | .fromf _ => .fromf rd
  | .fraconly _ => .fraconly rd
  | .ldraw _ => .ldraw rd
  | .mov _ rs1 => .mov rd rs1
  | .add _ rs1 rs2 => .add rd rs1 rs2
  | .sub _ rs1 rs2 => .sub rd rs1 rs2
  | .addi _ rs1 => .addi rd rs1
  | .subi _ rs1 => .subi rd rs1
  | .addf _ rs1 => .addf rd rs1
  | .subf _ rs1 => .subf rd rs1
  | .neg _ rs1 => .neg rd rs1
  | .mul _ rs1 rs2 => .mul rd rs1 rs2
  | .muli _ rs1 => .muli rd rs1
  | .mulf _ rs1 => .mulf rd rs1
  | .div _ rs1 rs2 => .div rd rs1 rs2
  | .shl _ rs1 => .shl rd rs1
  | .shr _ rs1 => .shr rd rs1
  | .floor _ rs1 => .floor rd rs1
  | .cmp rs1 rs2 => .cmp rs1 rs2
  | .toi rs1 => .toi rs1
  | .tof rs1 => .tof rs1
  | .rdraw rs1 => .rdraw rs1
  | .cfgw => .cfgw
  | .csrr csr => .csrr csr
  | .clrst => .clrst

/-- The commands that write RES: TOI, TOF, RDRAW and CSRR (10_state.md R25). -/
def writesRes (i : Instr) : Bool :=
  match i with
  | .toi _ | .tof _ | .rdraw _ | .csrr _ => true
  | _ => false

/-- How much of a bus a command reads (30_encoding.md R77). -/
inductive BusRead where
  /-- The bus is ignored. -/
  | ignored
  /-- Bits 63:0. -/
  | low64
  /-- All of it. -/
  | whole
deriving DecidableEq, Repr

/-- What a command reads of OPA (30_encoding.md R77). -/
def opaRead (i : Instr) : BusRead :=
  match i with
  | .new _ | .fromi _ | .addi _ _ | .subi _ _ | .muli _ _ | .fromu _ | .ldraw _ | .shl _ _ | .shr _ _ | .cfgw => .whole
  | .fromf _ | .addf _ _ | .subf _ _ | .mulf _ _ | .fraconly _ => .low64
  | _ => .ignored

/-- What a command reads of OPB (30_encoding.md R77). -/
def opbRead (i : Instr) : BusRead :=
  match i with
  | .new _ => .whole
  | _ => .ignored

/-- Two bus values that a command reading `b` of the bus cannot tell apart. -/
def SameRead (b : BusRead) (x y : Word) : Prop :=
  match b with
  | .ignored => True
  | .low64 => x.extractLsb' 0 64 = y.extractLsb' 0 64
  | .whole => x = y

/-- The error codes a legal command may raise (60_exceptions.md R211, column "raised by", with the causes of ILLEGAL_OPERATION
that a legal word can meet: CSRR's index and CFGW's value). -/
def mayRaise (i : Instr) : List ErrCode :=
  match i with
  | .new _ | .fromi _ => [.constructionOverflow]
  | .fromu _ => [.unrepresentableConversion, .constructionOverflow]
  | .fromf _ => [.nonFiniteOperand, .constructionOverflow]
  | .add _ _ _ | .sub _ _ _ | .addi _ _ | .subi _ _ | .neg _ _ | .mul _ _ _ | .muli _ _ => [.arithOverflow]
  | .addf _ _ | .subf _ _ | .mulf _ _ => [.nonFiniteOperand, .arithOverflow]
  | .div _ _ _ => [.divideByZero, .arithOverflow]
  | .shl _ _ => [.shiftRange, .arithOverflow]
  | .shr _ _ => [.shiftRange]
  | .cfgw | .csrr _ => [.illegalOperation]
  | _ => []

/-! ### The exact rational reading of the float rules -/

/-- `trunc(q)`, toward zero, on a rational (00_scope.md R11). -/
def ratTrunc (q : ℚ) : ℤ := if 0 ≤ q then ⌊q⌋ else ⌈q⌉

/-- `sgn(q) × floor(|q| + 1/2)`: to the nearest integer, ties away from zero (40_construct.md R110). -/
def ratRoundAway (q : ℚ) : ℤ := if 0 ≤ q then ⌊|q| + 1 / 2⌋ else -⌊|q| + 1 / 2⌋

/-- `f64value(p)` as the formula of 44_compare_convert.md R198 in rationals; `none` for NaN and the infinities. -/
def f64Rational (p : BitVec 64) : Option ℚ :=
  let e := (p.extractLsb' 52 11).toNat
  let m := (p.extractLsb' 0 52).toNat
  let sign : ℚ := if p.getLsbD 63 then -1 else 1
  if e = 0x7FF then none
  else if e = 0 then some (sign * (m : ℚ) * (2 : ℚ) ^ (-1074 : ℤ))
  else some (sign * ((2 : ℚ) ^ 52 + (m : ℚ)) * (2 : ℚ) ^ ((e : ℤ) - 1075))

/-- The semantic value of a register, `sint(N[r]) / 2^F` (00_scope.md R13). -/
def State.value (s : State) (r : NumReg) : ℚ := (s.numInt r : ℚ) / 2 ^ s.fracBits

end Sys2Proof.Machine
end

