-- ==== Sys2Proof/Certificates/Slice0/Obligations.lean ====
section
/-! DEFINITION. The statements for the provers. Each formalises a numbered rule of spec/ (or, where its docstring says so, a
consequence of several). The terms they use (`NumFrame`, `ResFrame`, `FailedWith`, `InRange`, …) are defined in Safety.lean. A
register's number is written as its signed value `sint (t.num r)`, which determines the register's bits.

The unit has no memory (20_memory.md R50), so no frame speaks of one. -/

open Sys2Proof Sys2Proof.Machine

/-! ### Encoding -/

/-- 30_encoding.md R71, R72, R74, R80: decoding the word of a command gives the command, with every field at every value. -/
def Obligations.DecodeOfEncode : Prop := ∀ i : Instr, decode (encode i) = .ok i

/-- 30_encoding.md R71–R74: a legal word is the word of the one command it decodes to, so no bit of it is dropped. -/
def Obligations.EncodeOfDecode : Prop := ∀ (w : BitVec 32) (i : Instr), decode w = .ok i → encode i = w

/-- 30_encoding.md R72, R73, R75, R80: the decoder (by masks) accepts exactly the words that are legal field by field. -/
def Obligations.DecodeAcceptsExactlyLegalWords : Prop :=
  ∀ w : BitVec 32, (∃ i, decode w = .ok i) ↔ wordWellFormed w = true

/-- 30_encoding.md R71, R72: words written out field by field (RSV CSR RS2 RS1 RD OP) decode to the commands they stand for, one
of each format. -/
def Obligations.WrittenOutWordsDecode : Prop :=
  decode 0b00000000000000_000_000_000_000_110010 = .ok .clrst ∧
  decode 0b00000000000000_000_000_000_101_000110 = .ok (.new 5) ∧
  decode 0b00000000000000_000_000_001_010_001100 = .ok (.mov 2 1) ∧
  decode 0b00000000000000_000_010_001_011_010000 = .ok (.add 3 1 2) ∧
  decode 0b00000000000000_000_000_110_111_011100 = .ok (.shl 7 6) ∧
  decode 0b00000000000000_000_000_101_000_100010 = .ok (.tof 5) ∧
  decode 0b00000000000000_000_010_001_000_100000 = .ok (.cmp 1 2) ∧
  decode 0b00000000000000_010_000_000_000_110001 = .ok (.csrr 2)

/-! ### Steps, reset and the host -/

/-- 20_memory.md R53, R55: when the host's next input is a valid command whose word decodes to `i`, the step is `i`'s meaning in
the state with the buses sampled, the command index advanced by one and the input consumed. How the host's inputs, the sampled
buses and the index stand in the state is the model's (log entries 1, 2 and 3). -/
def Obligations.StepRunsTheDecodedCommand : Prop :=
  ∀ (s : State) (c : Command) (rest : List PortIn) (i : Instr),
    s.pending = offer c :: rest → decode c.word = .ok i →
    step s = exec i { s with opa := c.opa, opb := c.opb, index := s.index + 1, pending := rest }

/-- 30_encoding.md R75, 60_exceptions.md R212: a word that is not legal changes no Num register, no RES, no CFG and not the
implementation's parameter, and so not ID (10_state.md R30); STATUS.ERR becomes ILLEGAL_OPERATION, STICKY 1, CMP is unchanged. -/
def Obligations.IllegalWordChangesOnlyStatus : Prop :=
  ∀ (s : State) (c : Command) (rest : List PortIn),
    s.pending = offer c :: rest → wordWellFormed c.word = false →
    ∃ t, step s = .next t ∧ (∀ r, t.num r = s.num r) ∧ t.res = s.res ∧ t.cfg = s.cfg ∧
      t.imaxSlack = s.imaxSlack ∧ t.status.err = .illegalOperation ∧ t.status.sticky = true ∧ t.status.cmp = s.status.cmp

/-- 10_state.md R24: the command index advances by exactly one for every command, legal or not, successful or not, and the step
always answers a next state. That the input is consumed from `pending` is the model's (log entry 1). -/
def Obligations.CommandIndexAdvancesByOne : Prop :=
  ∀ (s : State) (c : Command) (rest : List PortIn), s.pending = offer c :: rest →
    ∃ t, step s = .next t ∧ t.index = s.index + 1 ∧ t.pending = rest

/-- 70_reset_and_hazards.md R230, R231: when reset is asserted, with or without a command on the port, the state becomes the reset
state, whatever the command is; ID, the implementation's constant, stays, and the unit is ready for its first command. That a
sample with `rst_i` and a command stands for reset while that command is in progress is the model's choice (DESIGN CHOICE, log
entry 11); that `cmd_ready_o` is 1 in every state of the model comes of leaving out the cycles of a command (DESIGN CHOICE, log
entry 10); that the step keeps the parameter behind ID is log entry 4. -/
def Obligations.ResetAbandonsAnyCommand : Prop :=
  ∀ (s : State) (valid : Bool) (c : Command) (rest : List PortIn), s.pending = assertReset valid c :: rest →
    ∃ t, step s = .next t ∧ (∀ r, t.num r = 0) ∧ t.res = 0 ∧ cfgWord t.cfg = 0x00000008 ∧ t.statusO = 0x00000060 ∧
      idWord t.imaxSlack = idWord s.imaxSlack ∧ t.cmdReadyO = true

/-- 10_state.md R36, R30: every piece of state after reset, and the constant ID for each of the two values of the
implementation's IMAX_SLACK (which of the two `State.reset` carries is the model's, log entry 4). -/
def Obligations.ResetValues : Prop :=
  (∀ r, State.reset.num r = 0) ∧ State.reset.res = 0 ∧ cfgWord State.reset.cfg = 0x00000008 ∧
    State.reset.statusO = 0x00000060 ∧ idWord .one = 0x31400180 ∧ idWord .two = 0x32400180

/-- 60_exceptions.md R219, 70_reset_and_hazards.md R231: with no command offered the unit holds its state. How the absence of a
command is presented is the model's (log entry 1). -/
def Obligations.IdleUnitHoldsItsState : Prop :=
  (∀ s : State, s.pending = [] → step s = .next s) ∧
  (∀ (s : State) (c : Command) (rest : List PortIn),
    s.pending = { rst := false, valid := false, cmd := c } :: rest → step s = .next { s with pending := rest })

/-- 93_implementation_defined.md, "every command has one defined result for every state and every input": no step faults and
none is refused. -/
def Obligations.EveryStepHasANextState : Prop := ∀ s : State, ∃ t, step s = .next t

/-! ### Invariants -/

/-- The reset state meets the invariant (10_state.md R27, R29, R36). -/
def Obligations.ResetMeetsInvariant : Prop := State.reset.Inv

/-- Every step keeps the invariant: F stays legal (10_state.md R28), NOT_IMPLEMENTED is never in STATUS.ERR (60_exceptions.md
R211), and an error code in STATUS.ERR comes with STICKY (R212). -/
def Obligations.StepKeepsInvariant : Prop := ∀ s t : State, s.Inv → step s = .next t → t.Inv

/-! ### Rules over all commands -/

/-- 60_exceptions.md R216: the state after a failing command is exactly the state before it, with STATUS updated by R212. -/
def Obligations.ErrorsArePrecise : Prop :=
  ∀ (i : Instr) (s t : State), exec i s = .next t → t.status.err ≠ .none →
    t = { s with status := { err := t.status.err, sticky := true, cmp := s.status.cmp } }

/-- 60_exceptions.md R213: after a success STATUS.STICKY is unchanged except by CLRST, and STATUS.CMP except by CMP and CLRST. -/
def Obligations.SuccessKeepsStickyAndCmp : Prop :=
  ∀ (i : Instr) (s t : State), exec i s = .next t → t.status.err = .none →
    (i ≠ .clrst → t.status.sticky = s.status.sticky) ∧
    (i ≠ .clrst → (∀ a b, i ≠ .cmp a b) → t.status.cmp = s.status.cmp)

/-- 10_state.md R31: no command but CLRST ever clears STICKY. -/
def Obligations.OnlyClrstClearsSticky : Prop :=
  ∀ (i : Instr) (s t : State), exec i s = .next t → i ≠ .clrst → s.status.sticky = true → t.status.sticky = true

/-- 10_state.md R25: RES is written only by TOI, TOF, RDRAW and CSRR, a failed command never writes RES, and `res_o` drives RES. -/
def Obligations.OnlyReadoutsWriteRes : Prop :=
  (∀ (i : Instr) (s t : State), exec i s = .next t →
    (writesRes i = false → t.res = s.res) ∧ (t.status.err ≠ .none → t.res = s.res)) ∧
  (∀ s : State, s.resO = s.res)

/-- 10_state.md R28: CFG is written only by CFGW and only with a legal value; a refused value leaves CFG unchanged; and writing F
leaves the raw bits of every Num register, so that its value becomes sint(raw) / 2^Fnew. -/
def Obligations.OnlyCfgwWritesCfg : Prop :=
  ∀ (i : Instr) (s t : State), exec i s = .next t →
    (i ≠ .cfgw → t.cfg = s.cfg) ∧ (t.cfg = s.cfg ∨ t.LegalF) ∧
    (i = .cfgw → (t.status.err ≠ .none → t.cfg = s.cfg) ∧
      ∀ r, t.num r = s.num r ∧ t.value r = (sint (s.num r) : ℚ) / 2 ^ t.fracBits)

/-- 30_encoding.md R74, 10_state.md R21: a command writes no Num register but its destination, and nothing of the inputs the
host drives. -/
def Obligations.OnlyTheDestinationIsWritten : Prop :=
  ∀ (i : Instr) (s t : State), exec i s = .next t →
    (∀ r, destReg i ≠ some r → t.num r = s.num r) ∧ SameInputs s t

/-- 60_exceptions.md R211: a legal command leaves in STATUS.ERR 0 or one of the codes its column "raised by" names for it. -/
def Obligations.ErrorCodesAreThoseOfTheTable : Prop :=
  ∀ (i : Instr) (s t : State), exec i s = .next t → t.status.err = .none ∨ t.status.err ∈ mayRaise i

/-- 30_encoding.md R77: a bus, or the part of a bus, that a command does not read has no effect. -/
def Obligations.UnreadBusesHaveNoEffect : Prop :=
  ∀ (i : Instr) (s t : State) (x y : Word), SameRead (opaRead i) s.opa x → SameRead (opbRead i) s.opb y →
    exec i s = .next t → exec i { s with opa := x, opb := y } = .next { t with opa := x, opb := y }

/-- 00_scope.md R15, 30_encoding.md R76: the sources are read before the destination is written, so which register is the
destination, one of the sources included, changes neither the result nor STATUS. -/
def Obligations.ResultDoesNotDependOnDestination : Prop :=
  ∀ (i : Instr) (d : NumReg) (s t : State) (d' : NumReg), destReg i = some d → exec i s = .next t →
    ∃ t', exec (retarget d' i) s = .next t' ∧ t'.status = t.status ∧ (t.status.err = .none → t'.num d' = t.num d)

/-! ### Construction, constants and moves -/

/-- 40_construct.md R101, R102: LDZERO writes 0 and LDONE the raw value 2^F (F legal). -/
def Obligations.LdzeroLdoneResults : Prop :=
  (∀ (rd : NumReg) (s : State), ∃ t, exec (.ldzero rd) s = .next t ∧ sint (t.num rd) = 0 ∧ NumFrame rd s t) ∧
  (∀ (rd : NumReg) (s : State), s.LegalF →
    ∃ t, exec (.ldone rd) s = .next t ∧ sint (t.num rd) = 2 ^ s.fracBits ∧ NumFrame rd s t)

/-- 40_construct.md R103–R106: at every legal F, LDPI, LDE and LDHPI write floor(c × 2^F) of the real numbers pi, e and pi/2. -/
def Obligations.ConstantsAreTheTruncatedReals : Prop :=
  ∀ (rd : NumReg) (s : State), s.LegalF →
    (∃ t, exec (.ldpi rd) s = .next t ∧ sint (t.num rd) = ⌊Real.pi * 2 ^ s.fracBits⌋ ∧ NumFrame rd s t) ∧
    (∃ t, exec (.lde rd) s = .next t ∧ sint (t.num rd) = ⌊Real.exp 1 * 2 ^ s.fracBits⌋ ∧ NumFrame rd s t) ∧
    (∃ t, exec (.ldhpi rd) s = .next t ∧ sint (t.num rd) = ⌊Real.pi / 2 * 2 ^ s.fracBits⌋ ∧ NumFrame rd s t)

/-- 40_construct.md R107: NEW writes i × 2^F + f when |i| ≤ IMAX(F) and f < 2^F, and raises CONSTRUCTION_OVERFLOW otherwise. -/
def Obligations.NewResultOrOverflow : Prop :=
  ∀ (rd : NumReg) (s : State), s.LegalF →
    (|sint s.opa| ≤ 2 ^ (127 - s.fracBits) - (slackNat s.imaxSlack : ℤ) ∧ s.opb.toNat < 2 ^ s.fracBits →
      ∃ t, exec (.new rd) s = .next t ∧ sint (t.num rd) = sint s.opa * 2 ^ s.fracBits + (s.opb.toNat : ℤ) ∧
        NumFrame rd s t) ∧
    (¬ (|sint s.opa| ≤ 2 ^ (127 - s.fracBits) - (slackNat s.imaxSlack : ℤ) ∧ s.opb.toNat < 2 ^ s.fracBits) →
      ∃ t, exec (.new rd) s = .next t ∧ FailedWith .constructionOverflow s t)

/-- 40_construct.md R108: FROMI writes i × 2^F when |i| ≤ IMAX(F), and raises CONSTRUCTION_OVERFLOW otherwise. -/
def Obligations.FromiResultOrOverflow : Prop :=
  ∀ (rd : NumReg) (s : State), s.LegalF →
    (|sint s.opa| ≤ 2 ^ (127 - s.fracBits) - (slackNat s.imaxSlack : ℤ) →
      ∃ t, exec (.fromi rd) s = .next t ∧ sint (t.num rd) = sint s.opa * 2 ^ s.fracBits ∧ NumFrame rd s t) ∧
    (¬ |sint s.opa| ≤ 2 ^ (127 - s.fracBits) - (slackNat s.imaxSlack : ℤ) →
      ∃ t, exec (.fromi rd) s = .next t ∧ FailedWith .constructionOverflow s t)

/-- 40_construct.md R109: FROMU raises UNREPRESENTABLE_CONVERSION for u ≥ 2^127, then CONSTRUCTION_OVERFLOW for u > IMAX(F), and
otherwise writes u × 2^F. -/
def Obligations.FromuResultOrError : Prop :=
  ∀ (rd : NumReg) (s : State), s.LegalF →
    (2 ^ 127 ≤ s.opa.toNat → ∃ t, exec (.fromu rd) s = .next t ∧ FailedWith .unrepresentableConversion s t) ∧
    (s.opa.toNat < 2 ^ 127 → (2 : ℤ) ^ (127 - s.fracBits) - (slackNat s.imaxSlack : ℤ) < (s.opa.toNat : ℤ) →
      ∃ t, exec (.fromu rd) s = .next t ∧ FailedWith .constructionOverflow s t) ∧
    ((s.opa.toNat : ℤ) ≤ 2 ^ (127 - s.fracBits) - (slackNat s.imaxSlack : ℤ) →
      ∃ t, exec (.fromu rd) s = .next t ∧ sint (t.num rd) = (s.opa.toNat : ℤ) * 2 ^ s.fracBits ∧ NumFrame rd s t)

/-- 40_construct.md R110–R112: FROMF of a finite x whose integer part is within IMAX(F) writes x × 2^F rounded to nearest with
ties away from zero (RM = 0) or toward zero (RM = 1), and never fails then; a larger integer part raises CONSTRUCTION_OVERFLOW and
a NaN or infinity NON_FINITE_OPERAND. -/
def Obligations.FromfRoundsExactly : Prop :=
  ∀ (rd : NumReg) (s : State), s.LegalF →
    (f64Rational (s.opa.extractLsb' 0 64) = none →
      ∃ t, exec (.fromf rd) s = .next t ∧ FailedWith .nonFiniteOperand s t) ∧
    (∀ x : ℚ, f64Rational (s.opa.extractLsb' 0 64) = some x →
      (2 ^ (127 - s.fracBits) - (slackNat s.imaxSlack : ℤ) < |ratTrunc x| →
        ∃ t, exec (.fromf rd) s = .next t ∧ FailedWith .constructionOverflow s t) ∧
      (|ratTrunc x| ≤ 2 ^ (127 - s.fracBits) - (slackNat s.imaxSlack : ℤ) →
        ∃ t, exec (.fromf rd) s = .next t ∧ NumFrame rd s t ∧
          (s.cfg.rm = .biased → sint (t.num rd) = ratRoundAway (x * 2 ^ s.fracBits)) ∧
          (s.cfg.rm = .trunc → sint (t.num rd) = ratTrunc (x * 2 ^ s.fracBits))))

/-- 40_construct.md R113: FRACONLY writes floor(v × 2^F / 2^64) for v = uint(OPA[63:0]), whatever OPA[127:64] holds. -/
def Obligations.FraconlyTruncatesTheFraction : Prop :=
  ∀ (rd : NumReg) (s : State), s.LegalF →
    ∃ t, exec (.fraconly rd) s = .next t ∧
      sint (t.num rd) = ((s.opa.toNat % 2 ^ 64 * 2 ^ s.fracBits / 2 ^ 64 : ℕ) : ℤ) ∧ NumFrame rd s t

/-- 40_construct.md R114, R115: LDRAW copies OPA and MOV copies N[rs1], every bit. -/
def Obligations.LdrawMovCopyBits : Prop :=
  (∀ (rd : NumReg) (s : State), ∃ t, exec (.ldraw rd) s = .next t ∧ t.num rd = s.opa ∧ NumFrame rd s t) ∧
  (∀ (rd rs1 : NumReg) (s : State), ∃ t, exec (.mov rd rs1) s = .next t ∧ t.num rd = s.num rs1 ∧ NumFrame rd s t)

/-! ### Add, subtract, negate -/

/-- 41_addsub.md R140, R141, R147: ADD, SUB and NEG write the exact sum, difference and 0 − a when it fits, and raise
ARITH_OVERFLOW otherwise; NEG overflows exactly on −2^127. -/
def Obligations.AddSubNegExactOrOverflow : Prop :=
  (∀ (rd rs1 rs2 : NumReg) (s : State),
    (InRange (sint (s.num rs1) + sint (s.num rs2)) →
      ∃ t, exec (.add rd rs1 rs2) s = .next t ∧ sint (t.num rd) = sint (s.num rs1) + sint (s.num rs2) ∧ NumFrame rd s t) ∧
    (¬ InRange (sint (s.num rs1) + sint (s.num rs2)) →
      ∃ t, exec (.add rd rs1 rs2) s = .next t ∧ FailedWith .arithOverflow s t)) ∧
  (∀ (rd rs1 rs2 : NumReg) (s : State),
    (InRange (sint (s.num rs1) - sint (s.num rs2)) →
      ∃ t, exec (.sub rd rs1 rs2) s = .next t ∧ sint (t.num rd) = sint (s.num rs1) - sint (s.num rs2) ∧ NumFrame rd s t) ∧
    (¬ InRange (sint (s.num rs1) - sint (s.num rs2)) →
      ∃ t, exec (.sub rd rs1 rs2) s = .next t ∧ FailedWith .arithOverflow s t)) ∧
  (∀ (rd rs1 : NumReg) (s : State),
    (sint (s.num rs1) ≠ -(2 ^ 127) →
      ∃ t, exec (.neg rd rs1) s = .next t ∧ sint (t.num rd) = -sint (s.num rs1) ∧ NumFrame rd s t) ∧
    (sint (s.num rs1) = -(2 ^ 127) → ∃ t, exec (.neg rd rs1) s = .next t ∧ FailedWith .arithOverflow s t))

/-- 41_addsub.md R142, R143: ADDI and SUBI write a ± i × 2^F when the scaled operand and the result both fit, and raise
ARITH_OVERFLOW otherwise, also where only the scaled operand does not fit. -/
def Obligations.AddiSubiExactOrOverflow : Prop :=
  ∀ (rd rs1 : NumReg) (s : State),
    (InRange (sint s.opa * 2 ^ s.fracBits) →
      (InRange (sint (s.num rs1) + sint s.opa * 2 ^ s.fracBits) →
        ∃ t, exec (.addi rd rs1) s = .next t ∧ sint (t.num rd) = sint (s.num rs1) + sint s.opa * 2 ^ s.fracBits ∧
          NumFrame rd s t) ∧
      (InRange (sint (s.num rs1) - sint s.opa * 2 ^ s.fracBits) →
        ∃ t, exec (.subi rd rs1) s = .next t ∧ sint (t.num rd) = sint (s.num rs1) - sint s.opa * 2 ^ s.fracBits ∧
          NumFrame rd s t)) ∧
    (¬ (InRange (sint s.opa * 2 ^ s.fracBits) ∧ InRange (sint (s.num rs1) + sint s.opa * 2 ^ s.fracBits)) →
      ∃ t, exec (.addi rd rs1) s = .next t ∧ FailedWith .arithOverflow s t) ∧
    (¬ (InRange (sint s.opa * 2 ^ s.fracBits) ∧ InRange (sint (s.num rs1) - sint s.opa * 2 ^ s.fracBits)) →
      ∃ t, exec (.subi rd rs1) s = .next t ∧ FailedWith .arithOverflow s t)

/-- 41_addsub.md R144, R145, 40_construct.md R110: ADDF and SUBF of a finite x write a ± c, where c is x × 2^F rounded to nearest
with ties away from zero whatever CFG.RM holds, when c and the result fit; they raise ARITH_OVERFLOW when one does not, and
NON_FINITE_OPERAND for NaN and the infinities. Where x encodes as ±2^127 the SUBF clauses follow R145's pseudocode and not its remark
that SUBF of x equals ADDF of −x (DEDUCED, log entry 6). -/
def Obligations.AddfSubfRoundAwayOrError : Prop :=
  ∀ (rd rs1 : NumReg) (s : State),
    (f64Rational (s.opa.extractLsb' 0 64) = none →
      (∃ t, exec (.addf rd rs1) s = .next t ∧ FailedWith .nonFiniteOperand s t) ∧
      (∃ t, exec (.subf rd rs1) s = .next t ∧ FailedWith .nonFiniteOperand s t)) ∧
    (∀ (x : ℚ) (c : ℤ), f64Rational (s.opa.extractLsb' 0 64) = some x → c = ratRoundAway (x * 2 ^ s.fracBits) →
      (InRange c ∧ InRange (sint (s.num rs1) + c) →
        ∃ t, exec (.addf rd rs1) s = .next t ∧ sint (t.num rd) = sint (s.num rs1) + c ∧ NumFrame rd s t) ∧
      (¬ (InRange c ∧ InRange (sint (s.num rs1) + c)) →
        ∃ t, exec (.addf rd rs1) s = .next t ∧ FailedWith .arithOverflow s t) ∧
      (InRange c ∧ InRange (sint (s.num rs1) - c) →
        ∃ t, exec (.subf rd rs1) s = .next t ∧ sint (t.num rd) = sint (s.num rs1) - c ∧ NumFrame rd s t) ∧
      (¬ (InRange c ∧ InRange (sint (s.num rs1) - c)) →
        ∃ t, exec (.subf rd rs1) s = .next t ∧ FailedWith .arithOverflow s t))

/-- 41_addsub.md R145: SUBF of x equals ADDF of −x (x with bit 63 of its pattern flipped) for every finite x whose encoding is
not ±2^127. At ±2^127 the two rules' range checks on the encoded operand differ, since −2^127 fits and 2^127 does not (log
entry 6). -/
def Obligations.SubfIsAddfOfTheNegation : Prop :=
  ∀ (rd rs1 : NumReg) (s t : State) (x : ℚ), f64Rational (s.opa.extractLsb' 0 64) = some x →
    |ratRoundAway (x * 2 ^ s.fracBits)| ≠ 2 ^ 127 → exec (.subf rd rs1) s = .next t →
    exec (.addf rd rs1) { s with opa := s.opa ^^^ (1 <<< 63) } = .next { t with opa := s.opa ^^^ (1 <<< 63) }

/-- 41_addsub.md R145's remark word for word, "SUBF of x equals ADDF of −x for every finite x": it FAILS of R144 and R145's own
pseudocode where x encodes as −2^127, which fits while its negation does not (log entry 6). -/
def Obligations.SubfIsAddfOfTheNegationAlways : Prop :=
  ∀ (rd rs1 : NumReg) (s t : State), f64Rational (s.opa.extractLsb' 0 64) ≠ none → s.LegalF →
    exec (.subf rd rs1) s = .next t →
    exec (.addf rd rs1) { s with opa := s.opa ^^^ (1 <<< 63) } = .next { t with opa := s.opa ^^^ (1 <<< 63) }

/-! ### Multiply and divide -/

/-- 42_muldiv.md R160, R161: MUL and MULI write the exact product over 2^F rounded toward negative infinity (the integer of MULI
is not scaled) when it fits, and raise ARITH_OVERFLOW otherwise. -/
def Obligations.MulMuliFloorOrOverflow : Prop :=
  (∀ (rd rs1 rs2 : NumReg) (s : State) (v : ℤ), v = ⌊((sint (s.num rs1) * sint (s.num rs2) : ℤ) : ℚ) / 2 ^ s.fracBits⌋ →
    (InRange v → ∃ t, exec (.mul rd rs1 rs2) s = .next t ∧ sint (t.num rd) = v ∧ NumFrame rd s t) ∧
    (¬ InRange v → ∃ t, exec (.mul rd rs1 rs2) s = .next t ∧ FailedWith .arithOverflow s t)) ∧
  (∀ (rd rs1 : NumReg) (s : State) (v : ℤ), v = ⌊((sint (s.num rs1) * sint s.opa : ℤ) : ℚ) / 2 ^ s.fracBits⌋ →
    (InRange v → ∃ t, exec (.muli rd rs1) s = .next t ∧ sint (t.num rd) = v ∧ NumFrame rd s t) ∧
    (¬ InRange v → ∃ t, exec (.muli rd rs1) s = .next t ∧ FailedWith .arithOverflow s t))

/-- 42_muldiv.md R162, 40_construct.md R111: MULF of a finite x multiplies by c = trunc(x × 2^F), whatever CFG.RM holds, and
floors; it raises ARITH_OVERFLOW when c or the result does not fit and NON_FINITE_OPERAND for NaN and the infinities. -/
def Obligations.MulfTruncatesThenFloors : Prop :=
  ∀ (rd rs1 : NumReg) (s : State),
    (f64Rational (s.opa.extractLsb' 0 64) = none → ∃ t, exec (.mulf rd rs1) s = .next t ∧ FailedWith .nonFiniteOperand s t) ∧
    (∀ (x : ℚ) (c v : ℤ), f64Rational (s.opa.extractLsb' 0 64) = some x → c = ratTrunc (x * 2 ^ s.fracBits) →
      v = ⌊((sint (s.num rs1) * c : ℤ) : ℚ) / 2 ^ s.fracBits⌋ →
      (InRange c ∧ InRange v → ∃ t, exec (.mulf rd rs1) s = .next t ∧ sint (t.num rd) = v ∧ NumFrame rd s t) ∧
      (¬ (InRange c ∧ InRange v) → ∃ t, exec (.mulf rd rs1) s = .next t ∧ FailedWith .arithOverflow s t))

/-- 42_muldiv.md R163, R164: DIV by zero raises DIVIDE_BY_ZERO; otherwise the exact quotient a × 2^F / b is rounded toward zero
(DR = 0) or toward negative infinity (DR = 1), written when it fits, and ARITH_OVERFLOW is raised when it does not. That
the check is on the rounded quotient, so that at DR = 0 an exact quotient strictly between −2^127 − 1 and −2^127 is written as −2^127,
follows the rule's pseudocode and is the model's reading of the rule's remark on such quotients (DEDUCED, log entry 7). -/
def Obligations.DivRoundsAsDrSelects : Prop :=
  ∀ (rd rs1 rs2 : NumReg) (s : State),
    (sint (s.num rs2) = 0 → ∃ t, exec (.div rd rs1 rs2) s = .next t ∧ FailedWith .divideByZero s t) ∧
    (∀ v : ℤ, sint (s.num rs2) ≠ 0 →
      (s.cfg.dr = .towardZero → v = ratTrunc (((sint (s.num rs1) * 2 ^ s.fracBits : ℤ) : ℚ) / (sint (s.num rs2) : ℚ))) →
      (s.cfg.dr = .towardNegInf → v = ⌊((sint (s.num rs1) * 2 ^ s.fracBits : ℤ) : ℚ) / (sint (s.num rs2) : ℚ)⌋) →
      (InRange v → ∃ t, exec (.div rd rs1 rs2) s = .next t ∧ sint (t.num rd) = v ∧ NumFrame rd s t) ∧
      (¬ InRange v → ∃ t, exec (.div rd rs1 rs2) s = .next t ∧ FailedWith .arithOverflow s t))

/-- 41_addsub.md R140, R141, 42_muldiv.md R160, R164: the identities of the spec's arithmetic. (a + b) − b = a when the ADD did
not overflow; a × one = a and a ÷ one = a in both rounding modes, for every a and every legal F. -/
def Obligations.ArithmeticIdentities : Prop :=
  (∀ (rd rd' rs1 rs2 : NumReg) (s t : State), rd ≠ rs2 → exec (.add rd rs1 rs2) s = .next t → t.status.err = .none →
    ∃ t', exec (.sub rd' rd rs2) t = .next t' ∧ t'.status.err = .none ∧ t'.num rd' = s.num rs1) ∧
  (∀ (rd rs1 rs2 : NumReg) (s : State), s.LegalF → sint (s.num rs2) = 2 ^ s.fracBits →
    (∃ t, exec (.mul rd rs1 rs2) s = .next t ∧ t.status.err = .none ∧ t.num rd = s.num rs1) ∧
    (∃ t, exec (.div rd rs1 rs2) s = .next t ∧ t.status.err = .none ∧ t.num rd = s.num rs1))

/-! ### Shift and floor -/

/-- 43_shift_floor.md R180: SHL by n ≥ 127 raises SHIFT_RANGE, the count unreduced; otherwise it writes a × 2^n when that fits and
raises ARITH_OVERFLOW when it does not. -/
def Obligations.ShlExactOrError : Prop :=
  ∀ (rd rs1 : NumReg) (s : State),
    (127 ≤ s.opa.toNat → ∃ t, exec (.shl rd rs1) s = .next t ∧ FailedWith .shiftRange s t) ∧
    (s.opa.toNat < 127 →
      (InRange (sint (s.num rs1) * 2 ^ s.opa.toNat) →
        ∃ t, exec (.shl rd rs1) s = .next t ∧ sint (t.num rd) = sint (s.num rs1) * 2 ^ s.opa.toNat ∧ NumFrame rd s t) ∧
      (¬ InRange (sint (s.num rs1) * 2 ^ s.opa.toNat) →
        ∃ t, exec (.shl rd rs1) s = .next t ∧ FailedWith .arithOverflow s t))

/-- 43_shift_floor.md R181: SHR by n ≥ 127 raises SHIFT_RANGE; otherwise it is the arithmetic shift right of the register's bits,
that is, floor(a / 2^n). -/
def Obligations.ShrIsTheArithmeticShift : Prop :=
  ∀ (rd rs1 : NumReg) (s : State),
    (127 ≤ s.opa.toNat → ∃ t, exec (.shr rd rs1) s = .next t ∧ FailedWith .shiftRange s t) ∧
    (s.opa.toNat < 127 →
      ∃ t, exec (.shr rd rs1) s = .next t ∧ t.num rd = (s.num rs1).sshiftRight s.opa.toNat ∧
        sint (t.num rd) = ⌊(sint (s.num rs1) : ℚ) / 2 ^ s.opa.toNat⌋ ∧ NumFrame rd s t)

/-- 43_shift_floor.md R182: FLOOR writes the mathematical floor of the value, which is the raw bits AND NOT (2^F − 1), and a second
FLOOR changes nothing more. -/
def Obligations.FloorClearsTheFraction : Prop :=
  ∀ (rd rs1 : NumReg) (s : State), s.LegalF →
    ∃ t, exec (.floor rd rs1) s = .next t ∧ sint (t.num rd) = ⌊s.value rs1⌋ * 2 ^ s.fracBits ∧
      t.num rd = s.num rs1 &&& ~~~(BitVec.ofNat 128 (2 ^ s.fracBits - 1)) ∧ NumFrame rd s t ∧
      ∀ rd', ∃ t', exec (.floor rd' rd) t = .next t' ∧ t'.num rd' = t.num rd

/-! ### Compare, conversions out, readout -/

/-- 44_compare_convert.md R190, 10_state.md R23: CMP sets STATUS.CMP to the order of the two semantic values, which is the signed
order of the raw bits, and changes nothing else but STATUS.ERR. -/
def Obligations.CmpOrdersTheValues : Prop :=
  ∀ (rs1 rs2 : NumReg) (s : State),
    ∃ t, exec (.cmp rs1 rs2) s = .next t ∧ (∀ r, t.num r = s.num r) ∧ t.res = s.res ∧ t.cfg = s.cfg ∧ SameInputs s t ∧
      t.status.err = .none ∧ t.status.sticky = s.status.sticky ∧
      (t.status.cmp = .eq ↔ s.num rs1 = s.num rs2) ∧
      (t.status.cmp = .lt ↔ s.value rs1 < s.value rs2) ∧
      (t.status.cmp = .gt ↔ s.value rs2 < s.value rs1)

/-- 44_compare_convert.md R191: TOI writes floor(a / 2^F) to RES. -/
def Obligations.ToiFloors : Prop :=
  ∀ (rs1 : NumReg) (s : State), ∃ t, exec (.toi rs1) s = .next t ∧ sint t.res = ⌊s.value rs1⌋ ∧ ResFrame s t

/-- 44_compare_convert.md R192, R199: TOF writes to RES[63:0] the pattern of the largest binary64 value that is at most a / 2^F
(F legal), +0.0 for zero, with RES[127:64] = 0. -/
def Obligations.TofIsTheLargestBinary64Below : Prop :=
  ∀ (rs1 : NumReg) (s : State), s.LegalF →
    ∃ (t : State) (y : ℚ), exec (.tof rs1) s = .next t ∧ ResFrame s t ∧ t.res.toNat < 2 ^ 64 ∧
      f64Rational (t.res.extractLsb' 0 64) = some y ∧ y ≤ s.value rs1 ∧
      (∀ (p : BitVec 64) (z : ℚ), f64Rational p = some z → z ≤ s.value rs1 → z ≤ y) ∧
      (s.num rs1 = 0 → t.res = 0)

/-- 44_compare_convert.md R192: TOF of zero is +0.0, and every other result is a normal number: never −0.0, NaN, an infinity or a
subnormal (F legal). -/
def Obligations.TofIsZeroOrNormal : Prop :=
  ∀ (rs1 : NumReg) (s : State), s.LegalF →
    ∃ t, exec (.tof rs1) s = .next t ∧
      (s.num rs1 = 0 → t.res = 0) ∧
      (s.num rs1 ≠ 0 → 1 ≤ (t.res.extractLsb' 52 11).toNat ∧ (t.res.extractLsb' 52 11).toNat ≤ 2046)

/-- 44_compare_convert.md R193: RDRAW copies the register's bits to RES. -/
def Obligations.RdrawCopiesBits : Prop :=
  ∀ (rs1 : NumReg) (s : State), ∃ t, exec (.rdraw rs1) s = .next t ∧ t.res = s.num rs1 ∧ ResFrame s t

/-! ### Control -/

/-- 45_control.md R200, R203: NOP changes nothing but STATUS.ERR, which becomes 0; CLRST sets the whole of STATUS to 0x60 and
changes nothing else. -/
def Obligations.NopClrstEffects : Prop :=
  (∀ s : State, ∃ t, exec .nop s = .next t ∧ (∀ r, t.num r = s.num r) ∧ t.res = s.res ∧ t.cfg = s.cfg ∧
    StatusSuccess s t ∧ SameInputs s t) ∧
  (∀ s : State, ∃ t, exec .clrst s = .next t ∧ (∀ r, t.num r = s.num r) ∧ t.res = s.res ∧ t.cfg = s.cfg ∧
    t.statusO = 0x00000060 ∧ SameInputs s t)

/-- 45_control.md R201, 10_state.md R28: CFGW writes OPA to CFG, word for word, and no Num register, when OPA's bits 127:10 and 7
are zero and F is in 1..64; any other value raises ILLEGAL_OPERATION and leaves CFG whole. -/
def Obligations.CfgwWritesLegalValuesWhole : Prop :=
  ∀ s : State,
    (s.opa.toNat < 2 ^ 10 ∧ s.opa.getLsbD 7 = false ∧ 1 ≤ s.opa.toNat % 2 ^ 7 ∧ s.opa.toNat % 2 ^ 7 ≤ 64 →
      ∃ t, exec .cfgw s = .next t ∧ (cfgWord t.cfg).toNat = s.opa.toNat ∧ t.fracBits = s.opa.toNat % 2 ^ 7 ∧
        (t.cfg.rm = .trunc ↔ s.opa.getLsbD 8 = true) ∧ (t.cfg.dr = .towardNegInf ↔ s.opa.getLsbD 9 = true) ∧
        (∀ r, t.num r = s.num r) ∧ t.res = s.res ∧ StatusSuccess s t ∧ SameInputs s t) ∧
    (¬ (s.opa.toNat < 2 ^ 10 ∧ s.opa.getLsbD 7 = false ∧ 1 ≤ s.opa.toNat % 2 ^ 7 ∧ s.opa.toNat % 2 ^ 7 ≤ 64) →
      ∃ t, exec .cfgw s = .next t ∧ FailedWith .illegalOperation s t)

/-- 45_control.md R202, 10_state.md R26, R27, R29, R30, 60_exceptions.md R211: CSRR reads CFG (0), STATUS as the previous command
left it (1) or ID (2) into RES, bit for bit as the fields are laid out, with the error codes 0 NONE to 8 ILLEGAL_OPERATION and the
CMP values 0 EQ, 1 LT, 2 GT, 3 NONE, and raises ILLEGAL_OPERATION for an index of 3 to 7. In every state `status_o` shows the same
STATUS (10_state.md R35). -/
def Obligations.CsrrReadsTheRegisters : Prop :=
  (∀ s : State, ∃ t, exec (.csrr 0) s = .next t ∧ ResFrame s t ∧
    t.res.toNat = s.fracBits + 2 ^ 8 * (if s.cfg.rm = .trunc then 1 else 0) +
      2 ^ 9 * (if s.cfg.dr = .towardNegInf then 1 else 0)) ∧
  (∀ s : State, ∃ t, exec (.csrr 1) s = .next t ∧ ResFrame s t ∧
    ShowsStatus t.res.toNat s.status) ∧
  (∀ s : State, ShowsStatus s.statusO.toNat s.status) ∧
  (∀ s : State, ∃ t, exec (.csrr 2) s = .next t ∧ ResFrame s t ∧
    t.res.toNat = 128 + 2 ^ 8 * 1 + 2 ^ 16 * 64 + 2 ^ 24 * slackNat s.imaxSlack + 2 ^ 28 * 3) ∧
  (∀ (csr : CsrIndex) (s : State), 3 ≤ csr.val → ∃ t, exec (.csrr csr) s = .next t ∧ FailedWith .illegalOperation s t)

/-! ### The float functions against their rules -/

/-- 44_compare_convert.md R198: `f64value` gives the exact rational of the rule (its units are 2^−1074) and is non-finite exactly
where the rule is. -/
def Obligations.F64ValueIsTheRule : Prop :=
  ∀ p : BitVec 64,
    (∀ n : ℤ, f64value p = .finite n ↔ f64Rational p = some ((n : ℚ) / 2 ^ 1074)) ∧
    (f64Rational p = none ↔ f64value p = .nan ∨ f64value p = .infinity false ∨ f64value p = .infinity true)

/-- 40_construct.md R110: `encBiased` is the rule's split, computed in rationals: ip = trunc(x), rem = x − ip,
fu = floor((|rem| + 2^−(F+1)) × 2^F). -/
def Obligations.EncBiasedIsTheRule : Prop :=
  ∀ (n : ℤ) (f : ℕ) (x : ℚ), x = (n : ℚ) / 2 ^ 1074 →
    encBiased n f = ratTrunc x * 2 ^ f +
      (if 0 ≤ x then ⌊(|x - ratTrunc x| + 1 / 2 ^ (f + 1)) * 2 ^ f⌋ else -⌊(|x - ratTrunc x| + 1 / 2 ^ (f + 1)) * 2 ^ f⌋)

/-- 40_construct.md R111: `encTrunc` is the rule's split, computed in rationals: fu = floor(|rem| × 2^F). -/
def Obligations.EncTruncIsTheRule : Prop :=
  ∀ (n : ℤ) (f : ℕ) (x : ℚ), x = (n : ℚ) / 2 ^ 1074 →
    encTrunc n f = ratTrunc x * 2 ^ f +
      (if 0 ≤ x then ⌊|x - ratTrunc x| * 2 ^ f⌋ else -⌊|x - ratTrunc x| * 2 ^ f⌋)
end

