-- ==== Sys2Proof/Laws/State.lean ====
section
/-! SUPPORT. One lemma per field per update of the state, so that no proof unfolds a record update, and the reads of the Num
registers after a write. -/

namespace Sys2Proof.Machine

variable (s : State) (r : NumReg) (v : Word) (c : ErrCode) (k : Command) (p : PortIn)

@[simp] theorem setNum_res : (s.setNum r v).res = s.res := rfl
@[simp] theorem setNum_cfg : (s.setNum r v).cfg = s.cfg := rfl
@[simp] theorem setNum_status : (s.setNum r v).status = s.status := rfl
@[simp] theorem setNum_imaxSlack : (s.setNum r v).imaxSlack = s.imaxSlack := rfl
@[simp] theorem setNum_opa : (s.setNum r v).opa = s.opa := rfl
@[simp] theorem setNum_opb : (s.setNum r v).opb = s.opb := rfl
@[simp] theorem setNum_index : (s.setNum r v).index = s.index := rfl
@[simp] theorem setNum_pending : (s.setNum r v).pending = s.pending := rfl

@[simp] theorem setRes_nums : (s.setRes v).nums = s.nums := rfl
@[simp] theorem setRes_res : (s.setRes v).res = v := rfl
@[simp] theorem setRes_cfg : (s.setRes v).cfg = s.cfg := rfl
@[simp] theorem setRes_status : (s.setRes v).status = s.status := rfl
@[simp] theorem setRes_imaxSlack : (s.setRes v).imaxSlack = s.imaxSlack := rfl
@[simp] theorem setRes_opa : (s.setRes v).opa = s.opa := rfl
@[simp] theorem setRes_opb : (s.setRes v).opb = s.opb := rfl
@[simp] theorem setRes_index : (s.setRes v).index = s.index := rfl
@[simp] theorem setRes_pending : (s.setRes v).pending = s.pending := rfl

@[simp] theorem noError_nums : s.noError.nums = s.nums := rfl
@[simp] theorem noError_res : s.noError.res = s.res := rfl
@[simp] theorem noError_cfg : s.noError.cfg = s.cfg := rfl
@[simp] theorem noError_err : s.noError.status.err = .none := rfl
@[simp] theorem noError_sticky : s.noError.status.sticky = s.status.sticky := rfl
@[simp] theorem noError_cmp : s.noError.status.cmp = s.status.cmp := rfl
@[simp] theorem noError_imaxSlack : s.noError.imaxSlack = s.imaxSlack := rfl
@[simp] theorem noError_opa : s.noError.opa = s.opa := rfl
@[simp] theorem noError_opb : s.noError.opb = s.opb := rfl
@[simp] theorem noError_index : s.noError.index = s.index := rfl
@[simp] theorem noError_pending : s.noError.pending = s.pending := rfl

@[simp] theorem withError_nums : (s.withError c).nums = s.nums := rfl
@[simp] theorem withError_res : (s.withError c).res = s.res := rfl
@[simp] theorem withError_cfg : (s.withError c).cfg = s.cfg := rfl
@[simp] theorem withError_err : (s.withError c).status.err = c := rfl
@[simp] theorem withError_sticky : (s.withError c).status.sticky = true := rfl
@[simp] theorem withError_cmp : (s.withError c).status.cmp = s.status.cmp := rfl
@[simp] theorem withError_imaxSlack : (s.withError c).imaxSlack = s.imaxSlack := rfl
@[simp] theorem withError_opa : (s.withError c).opa = s.opa := rfl
@[simp] theorem withError_opb : (s.withError c).opb = s.opb := rfl
@[simp] theorem withError_index : (s.withError c).index = s.index := rfl
@[simp] theorem withError_pending : (s.withError c).pending = s.pending := rfl

@[simp] theorem accept_nums : (s.accept k).nums = s.nums := rfl
@[simp] theorem accept_res : (s.accept k).res = s.res := rfl
@[simp] theorem accept_cfg : (s.accept k).cfg = s.cfg := rfl
@[simp] theorem accept_status : (s.accept k).status = s.status := rfl
@[simp] theorem accept_imaxSlack : (s.accept k).imaxSlack = s.imaxSlack := rfl
@[simp] theorem accept_opa : (s.accept k).opa = k.opa := rfl
@[simp] theorem accept_opb : (s.accept k).opb = k.opb := rfl
@[simp] theorem accept_index : (s.accept k).index = s.index + 1 := rfl
@[simp] theorem accept_pending : (s.accept k).pending = s.pending := rfl

@[simp] theorem drive_pending : (s.drive p).pending = p :: s.pending := rfl
@[simp] theorem drive_nums : (s.drive p).nums = s.nums := rfl
@[simp] theorem drive_res : (s.drive p).res = s.res := rfl
@[simp] theorem drive_cfg : (s.drive p).cfg = s.cfg := rfl
@[simp] theorem drive_status : (s.drive p).status = s.status := rfl
@[simp] theorem drive_imaxSlack : (s.drive p).imaxSlack = s.imaxSlack := rfl

@[simp] theorem doReset_imaxSlack : s.doReset.imaxSlack = s.imaxSlack := rfl
@[simp] theorem doReset_pending : s.doReset.pending = s.pending := rfl
@[simp] theorem doReset_cfg : s.doReset.cfg = Cfg.reset := rfl
@[simp] theorem doReset_status : s.doReset.status = Status.reset := rfl
@[simp] theorem doReset_nums : s.doReset.nums = State.reset.nums := rfl
@[simp] theorem doReset_res : s.doReset.res = 0 := rfl

/-- Reading the register just written gives the value written. -/
@[simp] theorem num_setNum_self : (s.setNum r v).num r = v := by
  simp [State.num, State.setNum]

/-- A write leaves every other Num register alone. -/
theorem num_setNum_ne {q : NumReg} (h : q ≠ r) : (s.setNum r v).num q = s.num q := by
  have hv : (r : Nat) ≠ q := fun e => h (Fin.ext e.symm)
  simp [State.num, State.setNum, hv]

@[simp] theorem num_setRes : (s.setRes v).num r = s.num r := rfl
@[simp] theorem num_noError : s.noError.num r = s.num r := rfl
@[simp] theorem num_withError : (s.withError c).num r = s.num r := rfl
@[simp] theorem num_accept : (s.accept k).num r = s.num r := rfl
@[simp] theorem num_drive : (s.drive p).num r = s.num r := rfl

/-- Every Num register reads 0 after reset (10_state.md R36). -/
@[simp] theorem num_reset : State.reset.num r = 0 := by
  simp [State.num, State.reset]

@[simp] theorem num_doReset : s.doReset.num r = 0 := num_reset r

@[simp] theorem fracBits_setNum : (s.setNum r v).fracBits = s.fracBits := rfl
@[simp] theorem fracBits_setRes : (s.setRes v).fracBits = s.fracBits := rfl
@[simp] theorem fracBits_noError : s.noError.fracBits = s.fracBits := rfl
@[simp] theorem fracBits_withError : (s.withError c).fracBits = s.fracBits := rfl
@[simp] theorem fracBits_accept : (s.accept k).fracBits = s.fracBits := rfl

end Sys2Proof.Machine
end

