-- ==== Sys2Proof/Laws/Ops.lean ====
section
/-! SUPPORT. One lemma per shared operation that says all it can do, and the laws of the exact-arithmetic primitives. -/

namespace Sys2Proof.Machine

/-! ### Primitives -/

/-- `fits` is the signed 128-bit range. -/
theorem fits_iff {n : Int} : fits n = true ↔ InRange n := by
  simp only [fits, InRange, Bool.and_eq_true, decide_eq_true_eq]
  omega

theorem fits_false_iff {n : Int} : fits n = false ↔ ¬ InRange n := by
  rw [← fits_iff, Bool.not_eq_true]

/-- The pattern of a number in range has that number as its signed value. -/
theorem sint_bits128 {n : Int} (h : InRange n) : sint (bits128 n) = n := by
  unfold InRange at h
  rw [sint, bits128, BitVec.toInt_ofInt]
  exact Int.bmod_eq_of_le (by omega) (by omega)

/-- The signed value of a pattern is in range. -/
theorem sint_inRange (v : Word) : InRange (sint v) := by
  have h1 := BitVec.le_toInt v
  have h2 := BitVec.toInt_lt (x := v)
  unfold InRange sint
  omega

/-- A pattern is determined by its signed value. -/
@[simp] theorem bits128_sint (v : Word) : bits128 (sint v) = v := BitVec.ofInt_toInt

/-- Floor division by a positive number is Euclidean division. -/
theorem fdiv_eq_ediv {n d : Int} (h : 0 ≤ d) : fdiv n d = n / d := Int.fdiv_eq_ediv_of_nonneg n h

/-- `fdiv` by a positive divisor is characterised by its bounds. -/
theorem fdiv_eq_iff {n d v : Int} (h : 0 < d) : fdiv n d = v ↔ v * d ≤ n ∧ n < (v + 1) * d := by
  rw [fdiv_eq_ediv h.le]
  constructor
  · rintro rfl
    exact ⟨Int.ediv_mul_le n h.ne', Int.lt_ediv_add_one_mul_self n h⟩
  · rintro ⟨h1, h2⟩
    exact le_antisymm (Int.lt_add_one_iff.1 (Int.ediv_lt_of_lt_mul h h2)) (Int.le_ediv_of_mul_le h h1)

/-! ### The frames of the three ends of a command -/

variable (s : State)

theorem sameInputs_refl : SameInputs s s := ⟨rfl, rfl, rfl, rfl, rfl⟩

/-- All that `raiseErr` can do. -/
theorem raiseErr_next (c : ErrCode) : ∃ t, raiseErr c s = .next t ∧ FailedWith c s t :=
  ⟨s.withError c, rfl, fun _ => rfl, rfl, rfl, rfl, rfl, rfl, rfl, rfl, rfl, rfl, rfl⟩

/-- All that `writeNum` can do. -/
theorem writeNum_next (rd : NumReg) (v : Word) :
    ∃ t, writeNum rd v s = .next t ∧ t.num rd = v ∧ NumFrame rd s t :=
  ⟨(s.setNum rd v).noError, rfl, num_setNum_self s rd v,
    ⟨fun _ h => num_setNum_ne s rd v h, rfl, rfl, ⟨rfl, rfl, rfl⟩, rfl, rfl, rfl, rfl, rfl⟩⟩

/-- All that `writeRes` can do. -/
theorem writeRes_next (v : Word) : ∃ t, writeRes v s = .next t ∧ t.res = v ∧ ResFrame s t :=
  ⟨(s.setRes v).noError, rfl, rfl, ⟨fun _ => rfl, rfl, ⟨rfl, rfl, rfl⟩, rfl, rfl, rfl, rfl, rfl⟩⟩

/-- `writeNumIfFits` on a result in range: the register holds exactly that number. -/
theorem writeNumIfFits_inRange (c : ErrCode) (rd : NumReg) {v : Int} (h : InRange v) :
    ∃ t, writeNumIfFits c rd v s = .next t ∧ sint (t.num rd) = v ∧ NumFrame rd s t := by
  obtain ⟨t, ht, hv, hf⟩ := writeNum_next s rd (bits128 v)
  exact ⟨t, by rw [writeNumIfFits, if_pos (fits_iff.2 h), ht], by rw [hv, sint_bits128 h], hf⟩

/-- `writeNumIfFits` on a result out of range: the command fails with its code. -/
theorem writeNumIfFits_outOfRange (c : ErrCode) (rd : NumReg) {v : Int} (h : ¬ InRange v) :
    ∃ t, writeNumIfFits c rd v s = .next t ∧ FailedWith c s t := by
  obtain ⟨t, ht, hf⟩ := raiseErr_next s c
  exact ⟨t, by rw [writeNumIfFits, if_neg (by rw [fits_iff]; exact h), ht], hf⟩

/-- Every way `writeNumIfFits` can end. -/
theorem writeNumIfFits_cases (c : ErrCode) (rd : NumReg) (v : Int) :
    (InRange v ∧ writeNumIfFits c rd v s = .next (s.setNum rd (bits128 v)).noError) ∨
      (¬ InRange v ∧ writeNumIfFits c rd v s = .next (s.withError c)) := by
  by_cases h : InRange v
  · exact .inl ⟨h, by rw [writeNumIfFits, if_pos (fits_iff.2 h)]; rfl⟩
  · exact .inr ⟨h, by rw [writeNumIfFits, if_neg (by rw [fits_iff]; exact h)]; rfl⟩

end Sys2Proof.Machine
end

