-- ==== Sys2Proof/Laws/Arith.lean ====
section
/-! SUPPORT. Facts about the construction bound (40_construct.md R100) and about floor division by a power of two, which the
result statements of several commands share. -/

namespace Sys2Proof.Machine

/-- `ctorOk` is the bound of 40_construct.md R100. -/
theorem ctorOk_iff {s : State} {i : Int} :
    ctorOk s i = true ↔ |i| ≤ 2 ^ (127 - s.fracBits) - (slackNat s.imaxSlack : ℤ) := by
  simp [ctorOk, imax]

theorem ctorOk_false_iff {s : State} {i : Int} :
    ctorOk s i = false ↔ 2 ^ (127 - s.fracBits) - (slackNat s.imaxSlack : ℤ) < |i| := by
  rw [← Bool.not_eq_true, ctorOk_iff, not_le]

/-- IMAX_SLACK is at least 1 (00_scope.md R8). -/
theorem one_le_slackNat (k : ImaxSlack) : 1 ≤ slackNat k := by cases k <;> simp [slackNat]

/-- An integer part within the bound, scaled by 2^F and joined with a fraction below 2^F, fits (40_construct.md R100). -/
theorem scaled_inRange {s : State} (hF : s.LegalF) {i g : ℤ}
    (hi : |i| ≤ 2 ^ (127 - s.fracBits) - (slackNat s.imaxSlack : ℤ)) (hg : 0 ≤ g) (hg' : g < 2 ^ s.fracBits) :
    InRange (i * 2 ^ s.fracBits + g) := by
  have hk : (1 : ℤ) ≤ slackNat s.imaxSlack := by exact_mod_cast one_le_slackNat s.imaxSlack
  have hQP : (2 : ℤ) ^ (127 - s.fracBits) * 2 ^ s.fracBits = 2 ^ 127 := by
    rw [← pow_add]
    congr 1
    have := hF.2
    omega
  have hp : (0 : ℤ) < 2 ^ s.fracBits := by positivity
  rw [abs_le] at hi
  unfold InRange
  generalize (2 : ℤ) ^ s.fracBits = P at *
  generalize (2 : ℤ) ^ (127 - s.fracBits) = Q at *
  constructor <;> nlinarith

/-- The units in 1 are 2^1074 (44_compare_convert.md R198). -/
theorem f64Scale_eq : f64Scale = 2 ^ 1074 := Nat.one_shiftLeft 1074

/-- Floor division by a power of two does not leave the range. -/
theorem fdiv_pow_inRange {a : ℤ} (h : InRange a) (f : ℕ) : InRange (fdiv a (2 ^ f)) := by
  have hp : (0 : ℤ) < 2 ^ f := by positivity
  rw [fdiv_eq_ediv hp.le]
  unfold InRange at *
  constructor
  · rw [Int.le_ediv_iff_mul_le hp]; nlinarith
  · rw [Int.ediv_lt_iff_lt_mul hp]; nlinarith

/-- Floor division by a power of two is the floor of the rational quotient. -/
theorem fdiv_pow_eq_floor (a : ℤ) (f : ℕ) : fdiv a (2 ^ f) = ⌊(a : ℚ) / 2 ^ f⌋ := by
  rw [fdiv_eq_ediv (by positivity), show ((2 : ℚ) ^ f) = ((2 ^ f : ℕ) : ℚ) by push_cast; rfl,
    Rat.floor_intCast_div_natCast]
  push_cast
  rfl

end Sys2Proof.Machine
end

