-- ==== Sys2Proof/Laws/PerInstr.lean ====
section
/-! SUPPORT. The family EncodingLegal: the word of every command passes the legality checks of WellFormed.lean
(30_encoding.md R72). One lemma per constructor. -/

namespace Sys2Proof.Laws

/-- The command's word is legal: RSV zero, an assigned opcode, every unused field zero. -/
def EncodingLegal.Statement (i : Instr) : Prop := wordWellFormed (encode i) = true

theorem EncodingLegal.nop : EncodingLegal.Statement .nop := by
  unfold EncodingLegal.Statement; decide

theorem EncodingLegal.ldzero (rd : NumReg) : EncodingLegal.Statement (.ldzero rd) := by
  revert rd; unfold EncodingLegal.Statement; decide

theorem EncodingLegal.ldone (rd : NumReg) : EncodingLegal.Statement (.ldone rd) := by
  revert rd; unfold EncodingLegal.Statement; decide

theorem EncodingLegal.ldpi (rd : NumReg) : EncodingLegal.Statement (.ldpi rd) := by
  revert rd; unfold EncodingLegal.Statement; decide

theorem EncodingLegal.lde (rd : NumReg) : EncodingLegal.Statement (.lde rd) := by
  revert rd; unfold EncodingLegal.Statement; decide

theorem EncodingLegal.ldhpi (rd : NumReg) : EncodingLegal.Statement (.ldhpi rd) := by
  revert rd; unfold EncodingLegal.Statement; decide

theorem EncodingLegal.new (rd : NumReg) : EncodingLegal.Statement (.new rd) := by
  revert rd; unfold EncodingLegal.Statement; decide

theorem EncodingLegal.fromi (rd : NumReg) : EncodingLegal.Statement (.fromi rd) := by
  revert rd; unfold EncodingLegal.Statement; decide

theorem EncodingLegal.fromu (rd : NumReg) : EncodingLegal.Statement (.fromu rd) := by
  revert rd; unfold EncodingLegal.Statement; decide

theorem EncodingLegal.fromf (rd : NumReg) : EncodingLegal.Statement (.fromf rd) := by
  revert rd; unfold EncodingLegal.Statement; decide

theorem EncodingLegal.fraconly (rd : NumReg) : EncodingLegal.Statement (.fraconly rd) := by
  revert rd; unfold EncodingLegal.Statement; decide

theorem EncodingLegal.ldraw (rd : NumReg) : EncodingLegal.Statement (.ldraw rd) := by
  revert rd; unfold EncodingLegal.Statement; decide

theorem EncodingLegal.mov (rd rs1 : NumReg) : EncodingLegal.Statement (.mov rd rs1) := by
  revert rd rs1; unfold EncodingLegal.Statement; decide

theorem EncodingLegal.add (rd rs1 rs2 : NumReg) : EncodingLegal.Statement (.add rd rs1 rs2) := by
  revert rd rs1 rs2; unfold EncodingLegal.Statement; decide

theorem EncodingLegal.sub (rd rs1 rs2 : NumReg) : EncodingLegal.Statement (.sub rd rs1 rs2) := by
  revert rd rs1 rs2; unfold EncodingLegal.Statement; decide

theorem EncodingLegal.addi (rd rs1 : NumReg) : EncodingLegal.Statement (.addi rd rs1) := by
  revert rd rs1; unfold EncodingLegal.Statement; decide

theorem EncodingLegal.subi (rd rs1 : NumReg) : EncodingLegal.Statement (.subi rd rs1) := by
  revert rd rs1; unfold EncodingLegal.Statement; decide

theorem EncodingLegal.addf (rd rs1 : NumReg) : EncodingLegal.Statement (.addf rd rs1) := by
  revert rd rs1; unfold EncodingLegal.Statement; decide

theorem EncodingLegal.subf (rd rs1 : NumReg) : EncodingLegal.Statement (.subf rd rs1) := by
  revert rd rs1; unfold EncodingLegal.Statement; decide

theorem EncodingLegal.neg (rd rs1 : NumReg) : EncodingLegal.Statement (.neg rd rs1) := by
  revert rd rs1; unfold EncodingLegal.Statement; decide

theorem EncodingLegal.mul (rd rs1 rs2 : NumReg) : EncodingLegal.Statement (.mul rd rs1 rs2) := by
  revert rd rs1 rs2; unfold EncodingLegal.Statement; decide

theorem EncodingLegal.muli (rd rs1 : NumReg) : EncodingLegal.Statement (.muli rd rs1) := by
  revert rd rs1; unfold EncodingLegal.Statement; decide

theorem EncodingLegal.mulf (rd rs1 : NumReg) : EncodingLegal.Statement (.mulf rd rs1) := by
  revert rd rs1; unfold EncodingLegal.Statement; decide

theorem EncodingLegal.div (rd rs1 rs2 : NumReg) : EncodingLegal.Statement (.div rd rs1 rs2) := by
  revert rd rs1 rs2; unfold EncodingLegal.Statement; decide

theorem EncodingLegal.shl (rd rs1 : NumReg) : EncodingLegal.Statement (.shl rd rs1) := by
  revert rd rs1; unfold EncodingLegal.Statement; decide

theorem EncodingLegal.shr (rd rs1 : NumReg) : EncodingLegal.Statement (.shr rd rs1) := by
  revert rd rs1; unfold EncodingLegal.Statement; decide

theorem EncodingLegal.floor (rd rs1 : NumReg) : EncodingLegal.Statement (.floor rd rs1) := by
  revert rd rs1; unfold EncodingLegal.Statement; decide

theorem EncodingLegal.cmp (rs1 rs2 : NumReg) : EncodingLegal.Statement (.cmp rs1 rs2) := by
  revert rs1 rs2; unfold EncodingLegal.Statement; decide

theorem EncodingLegal.toi (rs1 : NumReg) : EncodingLegal.Statement (.toi rs1) := by
  revert rs1; unfold EncodingLegal.Statement; decide

theorem EncodingLegal.tof (rs1 : NumReg) : EncodingLegal.Statement (.tof rs1) := by
  revert rs1; unfold EncodingLegal.Statement; decide

theorem EncodingLegal.rdraw (rs1 : NumReg) : EncodingLegal.Statement (.rdraw rs1) := by
  revert rs1; unfold EncodingLegal.Statement; decide

theorem EncodingLegal.cfgw : EncodingLegal.Statement .cfgw := by
  unfold EncodingLegal.Statement; decide

theorem EncodingLegal.csrr (csr : CsrIndex) : EncodingLegal.Statement (.csrr csr) := by
  revert csr; unfold EncodingLegal.Statement; decide

theorem EncodingLegal.clrst : EncodingLegal.Statement .clrst := by
  unfold EncodingLegal.Statement; decide

end Sys2Proof.Laws
end

