-- ==== Sys2Proof/Laws/Decode.lean ====
section
/-! SUPPORT. What the shared parts of the decoder and the encoder do: the last test of 30_encoding.md R80 and the fields of a packed
word (R71). -/

namespace Sys2Proof

/-- All that `inFormat` can accept. -/
theorem inFormat_eq_ok {f : Format} {w : BitVec 32} {i j : Instr} (h : inFormat f w i = .ok j) :
    j = i ∧ w &&& formatMask f = (opField w).setWidth 32 := by
  unfold inFormat at h
  split at h
  · injection h with h
    exact ⟨h.symm, by assumption⟩
  · cases h

/-- A word is determined by its fields. -/
theorem word_eq_of_fields {v w : BitVec 32} (ho : opField v = opField w) (hd : rdField v = rdField w)
    (h1 : rs1Field v = rs1Field w) (h2 : rs2Field v = rs2Field w) (hc : csrField v = csrField w)
    (hr : rsvField v = rsvField w) : v = w := by
  have ho' := congrArg BitVec.toNat ho
  have hd' := congrArg Fin.val hd
  have h1' := congrArg Fin.val h1
  have h2' := congrArg Fin.val h2
  have hc' := congrArg Fin.val hc
  have hr' := congrArg BitVec.toNat hr
  simp only [opField, rdField, rs1Field, rs2Field, csrField, rsvField, BitVec.val_toFin, BitVec.extractLsb'_toNat,
    Nat.shiftRight_eq_div_pow] at ho' hd' h1' h2' hc' hr'
  have hv := v.isLt
  have hw := w.isLt
  apply BitVec.eq_of_toNat_eq
  omega

end Sys2Proof
end

