-- ==== Sys2Proof/Laws/Exec.lean ====
section
/-! SUPPORT. What a command can do, said once: every next state `exec` answers is one of seven. The statements over all commands
follow from this lemma without unfolding a meaning again. -/

namespace Sys2Proof.Machine

/-- A command fails with a code of its column in 60_exceptions.md R211, or writes its destination, or RES, or STATUS.CMP, or
nothing, or CFG, or clears STATUS. -/
theorem exec_cases {i : Instr} {s t : State} (h : exec i s = .next t) :
    (∃ c, c ∈ mayRaise i ∧ t = s.withError c) ∨
    (∃ rd v, destReg i = some rd ∧ t = (s.setNum rd v).noError) ∨
    (writesRes i = true ∧ ∃ v, t = (s.setRes v).noError) ∨
    (∃ a b c, i = .cmp a b ∧ t = State.noError { s with status := { s.status with cmp := c } }) ∨
    (i = .nop ∧ t = s.noError) ∨
    (i = .cfgw ∧ cfgValueLegal s.opa = true ∧ t = State.noError { s with cfg := cfgOfValue s.opa }) ∨
    (i = .clrst ∧ t = { s with status := Status.reset }) := by
  cases i <;>
    simp only [exec, execNop, execLdzero, execLdone, execLdpi, execLde, execLdhpi, execNew, execFromi, execFromu, execFromf,
      execFraconly, execLdraw, execMov, execAdd, execSub, execAddi, execSubi, execAddf, execSubf, execNeg, execMul, execMuli,
      execMulf, execDiv, execShl, execShr, execFloor, execCmp, execToi, execTof, execRdraw, execCfgw, execCsrr, execClrst,
      writeNumIfFits, writeNum, writeRes, raiseErr, succeed] at h <;>
    (repeat' split at h) <;> (injection h with h; subst h) <;> simp [mayRaise, destReg, writesRes]
  all_goals first
    | exact ⟨_, rfl⟩
    | (right; exact ⟨_, rfl⟩)
    | (right; assumption)
    | rfl

/-- A legal configuration value has F in 1..64. -/
theorem cfgOfValue_legal {v : Word} (h : cfgValueLegal v = true) :
    1 ≤ (cfgOfValue v).f.toNat ∧ (cfgOfValue v).f.toNat ≤ 64 := by
  simp only [cfgValueLegal, Bool.and_eq_true, decide_eq_true_eq] at h
  exact ⟨h.1.2, h.2⟩

end Sys2Proof.Machine
end

