-- ==== Sys2Proof/Machine/Assembler.lean ====
section
/-! DEFINITION. How commands are written and presented by the host: the operand placement and notation of 30_encoding.md R81,
the pseudo-instructions of R82 and the numeric-capability contract of 45_control.md R206. Nothing here adds semantics: every
definition ends in one command of the opcode map. -/

namespace Sys2Proof.Machine

/-- The command for `i` with its bus operands as integers, each placed on its bus as `bits128(value)`; an omitted bus operand
is zero; a binary64 operand is its pattern (30_encoding.md R81). -/
def assemble (i : Instr) (opa : Int := 0) (opb : Int := 0) : Command :=
  { word := encode i, opa := bits128 opa, opb := bits128 opb }

/-- The mnemonic of a command (30_encoding.md R74). -/
def mnemonic (i : Instr) : String :=
  match i with
  | .nop => "NOP"
  | .ldzero _ => "LDZERO"
  | .ldone _ => "LDONE"
  | .ldpi _ => "LDPI"
  | .lde _ => "LDE"
  | .ldhpi _ => "LDHPI"
  | .new _ => "NEW"
  | .fromi _ => "FROMI"
  | .fromu _ => "FROMU"
  | .fromf _ => "FROMF"
  | .fraconly _ => "FRACONLY"
  | .ldraw _ => "LDRAW"
  | .mov _ _ => "MOV"
  | .add _ _ _ => "ADD"
  | .sub _ _ _ => "SUB"
  | .addi _ _ => "ADDI"
  | .subi _ _ => "SUBI"
  | .addf _ _ => "ADDF"
  | .subf _ _ => "SUBF"
  | .neg _ _ => "NEG"
  | .mul _ _ _ => "MUL"
  | .muli _ _ => "MULI"
  | .mulf _ _ => "MULF"
  | .div _ _ _ => "DIV"
  | .shl _ _ => "SHL"
  | .shr _ _ => "SHR"
  | .floor _ _ => "FLOOR"
  | .cmp _ _ => "CMP"
  | .toi _ => "TOI"
  | .tof _ => "TOF"
  | .rdraw _ => "RDRAW"
  | .cfgw => "CFGW"
  | .csrr _ => "CSRR"
  | .clrst => "CLRST"

/-- A Num register as R81 writes it, N0 to N7. -/
def regText (r : NumReg) : String := "N" ++ toString r.val

/-- A control register as R81 writes it: CFG, STATUS, ID, or #n for an index. -/
def csrText (c : CsrIndex) : String :=
  if c.val = 0 then "CFG" else if c.val = 1 then "STATUS" else if c.val = 2 then "ID" else "#" ++ toString c.val

/-- The operands in the word, in the order R81 writes them. -/
def wordOperands (i : Instr) : List String :=
  match i with
  | .nop => []
  | .ldzero rd => [regText rd]
  | .ldone rd => [regText rd]
  | .ldpi rd => [regText rd]
  | .lde rd => [regText rd]
  | .ldhpi rd => [regText rd]
  | .new rd => [regText rd]
  | .fromi rd => [regText rd]
  | .fromu rd => [regText rd]
  | .fromf rd => [regText rd]
  | .fraconly rd => [regText rd]
  | .ldraw rd => [regText rd]
  | .mov rd rs1 => [regText rd, regText rs1]
  | .add rd rs1 rs2 => [regText rd, regText rs1, regText rs2]
  | .sub rd rs1 rs2 => [regText rd, regText rs1, regText rs2]
  | .addi rd rs1 => [regText rd, regText rs1]
  | .subi rd rs1 => [regText rd, regText rs1]
  | .addf rd rs1 => [regText rd, regText rs1]
  | .subf rd rs1 => [regText rd, regText rs1]
  | .neg rd rs1 => [regText rd, regText rs1]
  | .mul rd rs1 rs2 => [regText rd, regText rs1, regText rs2]
  | .muli rd rs1 => [regText rd, regText rs1]
  | .mulf rd rs1 => [regText rd, regText rs1]
  | .div rd rs1 rs2 => [regText rd, regText rs1, regText rs2]
  | .shl rd rs1 => [regText rd, regText rs1]
  | .shr rd rs1 => [regText rd, regText rs1]
  | .floor rd rs1 => [regText rd, regText rs1]
  | .cmp rs1 rs2 => [regText rs1, regText rs2]
  | .toi rs1 => [regText rs1]
  | .tof rs1 => [regText rs1]
  | .rdraw rs1 => [regText rs1]
  | .cfgw => []
  | .csrr csr => [csrText csr]
  | .clrst => []

/-- One line of R81's notation: the mnemonic and its operands, the bus operands written `#value` after those of the word. -/
def asmText (i : Instr) (buses : List Int := []) : String :=
  let ops := wordOperands i ++ buses.map (fun v => "#" ++ toString v)
  match ops with
  | [] => mnemonic i
  | _ => mnemonic i ++ " " ++ String.intercalate ", " ops

/-- The pseudo-instructions (30_encoding.md R82). -/
inductive Pseudo where
  /-- HALF Nd, Na. -/
  | half (nd na : NumReg)
  /-- DOUBLE Nd, Na. -/
  | double (nd na : NumReg)
  /-- INC Nd, Na. -/
  | inc (nd na : NumReg)
  /-- CLR Nd. -/
  | clr (nd : NumReg)
  /-- NUMBITS, then `State.numBits`. -/
  | numbits
  /-- NFBITS, then `State.numFractBits`. -/
  | nfbits
  /-- SETF #f: F = f, RM = 0, DR = 0. -/
  | setf (f : Int)
deriving DecidableEq, Repr

/-- The one command a pseudo-instruction expands to (30_encoding.md R82). -/
def expandPseudo (p : Pseudo) : Command :=
  match p with
  | .half nd na => assemble (.shr nd na) 1
  | .double nd na => assemble (.shl nd na) 1
  | .inc nd na => assemble (.addi nd na) 1
  | .clr nd => assemble (.ldzero nd)
  | .numbits => assemble (.csrr 2)
  | .nfbits => assemble (.csrr 0)
  | .setf f => assemble .cfgw f

/-- The operations of the numeric-capability contract (45_control.md R206). -/
inductive ContractOp where
  /-- `zero()`. -/
  | zero
  /-- `one()`. -/
  | one
  /-- `pi()`. -/
  | pi
  /-- `e()`. -/
  | e
  /-- `frac_pi_2()`. -/
  | fracPi2
  /-- `floor()`. -/
  | floor
  /-- Left shift by a bit count. -/
  | shiftLeft
  /-- Right shift by a bit count. -/
  | shiftRight
  /-- `num_bits()`, then `State.numBits`. -/
  | numBits
  /-- `num_fract_bits()`, then `State.numFractBits`. -/
  | numFractBits
  /-- `from_fraction_only(value)`. -/
  | fromFractionOnly
  /-- Arithmetic: Num + Num. -/
  | add
  /-- Arithmetic: Num − Num. -/
  | sub
  /-- Arithmetic: Num + Integer. -/
  | addi
  /-- Arithmetic: Num − Integer. -/
  | subi
  /-- Arithmetic: Num + Float. -/
  | addf
  /-- Arithmetic: Num − Float. -/
  | subf
  /-- Arithmetic: negate. -/
  | neg
  /-- Arithmetic: Num × Num. -/
  | mul
  /-- Arithmetic: Num × Integer. -/
  | muli
  /-- Arithmetic: Num × Float. -/
  | mulf
  /-- Arithmetic: Num ÷ Num. -/
  | div
deriving DecidableEq, Repr

/-- The command a contract operation maps onto, with destination `rd` and sources `rs` and `rs2` where it has them
(45_control.md R206). -/
def contractCommand (o : ContractOp) (rd rs rs2 : NumReg) : Instr :=
  match o with
  | .zero => .ldzero rd
  | .one => .ldone rd
  | .pi => .ldpi rd
  | .e => .lde rd
  | .fracPi2 => .ldhpi rd
  | .floor => .floor rd rs
  | .shiftLeft => .shl rd rs
  | .shiftRight => .shr rd rs
  | .numBits => .csrr 2
  | .numFractBits => .csrr 0
  | .fromFractionOnly => .fraconly rd
  | .add => .add rd rs rs2
  | .sub => .sub rd rs rs2
  | .addi => .addi rd rs
  | .subi => .subi rd rs
  | .addf => .addf rd rs
  | .subf => .subf rd rs
  | .neg => .neg rd rs
  | .mul => .mul rd rs rs2
  | .muli => .muli rd rs
  | .mulf => .mulf rd rs
  | .div => .div rd rs rs2

/-- The command the host presents for a contract operation. `value` is its native operand, which travels on OPA: the bit count of a
shift, the fraction of `from_fraction_only`, the integer or the binary64 pattern of an arithmetic operator (30_encoding.md R77). -/
def contractCall (o : ContractOp) (rd rs rs2 : NumReg) (value : Int := 0) : Command :=
  assemble (contractCommand o rd rs rs2) value

/-- `num_bits()` as the host takes it after `CSRR ID`: RES[7:0] (30_encoding.md R82, 45_control.md R206). -/
def State.numBits (s : State) : Nat := (s.resO.extractLsb' 0 8).toNat

/-- `num_fract_bits()` as the host takes it after `CSRR CFG`: RES[6:0] (30_encoding.md R82, 45_control.md R206). -/
def State.numFractBits (s : State) : Nat := (s.resO.extractLsb' 0 7).toNat

end Sys2Proof.Machine
end

