-- ==== Sys2Proof/Machine/AsmText.lean ====
section
/-! DEFINITION. Reading a line of the assembler's notation (30_encoding.md R81, R82): the text of one command, as characters, to the
command the host presents. Host software, not the machine: no step reads text. -/

namespace Sys2Proof.Machine

/-! ### Numbers -/

/-- The value of a digit, hexadecimal digits in either case. -/
def digitValue (c : Char) : Option Nat :=
  let n := c.toNat
  if 48 ≤ n ∧ n ≤ 57 then some (n - 48)
  else if 97 ≤ n ∧ n ≤ 102 then some (n - 87)
  else if 65 ≤ n ∧ n ≤ 70 then some (n - 55)
  else none

/-- One more digit of a number in base `base`. -/
def digitStep (base : Nat) (acc : Option Nat) (c : Char) : Option Nat :=
  match acc, digitValue c with
  | some a, some d => if d < base then some (a * base + d) else none
  | _, _ => none

/-- A number in base `base`, of at least one digit. -/
def readNat (base : Nat) (cs : List Char) : Option Nat :=
  match cs with
  | [] => none
  | _ => cs.foldl (digitStep base) (some 0)

/-- A decimal or hex number; the digits of a hex constant may be grouped by `_`, as the examples of the spec group them. -/
def readUnsigned (cs : List Char) : Option Nat :=
  match cs with
  | '0' :: 'x' :: hs => readNat 16 (hs.filter (· != '_'))
  | _ => readNat 10 cs

/-- A decimal or hex integer, `#-3` or `#0x80`. -/
def readInteger (cs : List Char) : Option Int :=
  match cs with
  | '-' :: ds => (readUnsigned ds).map (fun n => -(n : Int))
  | _ => (readUnsigned cs).map (fun n => (n : Int))

/-- The text before the first `c`, and the text after it where there is one. -/
def splitAtChar (c : Char) (cs : List Char) : List Char × Option (List Char) :=
  match cs with
  | [] => ([], none)
  | d :: ds =>
    if d = c then ([], some ds)
    else
      let r := splitAtChar c ds
      (d :: r.1, r.2)

/-- The magnitude of a decimal float literal as a fraction: digits, a point and more digits, and a power of ten after `e`. -/
def readMagnitude (cs : List Char) : Option (Nat × Nat) :=
  let parts := splitAtChar 'e' cs
  let mant := splitAtChar '.' parts.1
  let frac := mant.2.getD []
  match readNat 10 (mant.1 ++ frac), (parts.2.map readInteger).getD (some 0) with
  | some n, some (Int.ofNat e) => some (n * 10 ^ e, 10 ^ frac.length)
  | some n, some (Int.negSucc e) => some (n, 10 ^ (frac.length + (e + 1)))
  | _, _ => none

/-- `n / d` to the nearest integer, ties to even, for d > 0. -/
def nearestEven (n d : Nat) : Nat :=
  let q := n / d
  if 2 * (n % d) < d then q else if d < 2 * (n % d) then q + 1 else q + q % 2

/-- The binary64 pattern of `± n / d`, to the nearest with ties to even where no pattern has that value (PRESUMED, log entry 13:
R81 says only "its binary64 pattern"). With k the exponent steps above the subnormals, the significand is n × 2^1074 / (d × 2^k),
and a carry out of it runs into the exponent field. -/
def nearestPattern (negative : Bool) (n d : Nat) : BitVec 64 :=
  let units := (n <<< 1074) / d
  let k := units.log2 - 52
  let m := nearestEven (n <<< 1074) (d <<< k)
  let mag := min (k * 2 ^ 52 + m) (0x7FF * 2 ^ 52)
  BitVec.ofBool negative ++ BitVec.ofNat 63 mag

/-- A float operand: a pattern `f64:0x…`, or a decimal float literal as its pattern (30_encoding.md R81). -/
def readFloat (cs : List Char) : Option (BitVec 64) :=
  match cs with
  | 'f' :: '6' :: '4' :: ':' :: ps =>
    match readUnsigned ps with
    | some n => if n < 2 ^ 64 then some (BitVec.ofNat 64 n) else none
    | none => none
  | '-' :: ds => (readMagnitude ds).map (fun q => nearestPattern true q.1 q.2)
  | _ => (readMagnitude cs).map (fun q => nearestPattern false q.1 q.2)

/-! ### Operands -/

/-- An operand as it is written. -/
inductive AsmOperand where
  /-- `N0` to `N7`. -/
  | reg (r : NumReg)
  /-- `#value`: the text after `#`. -/
  | bus (text : List Char)
  /-- Any other name. -/
  | name (text : List Char)
deriving DecidableEq, Repr

/-- An operand from its text. -/
def readOperand (cs : List Char) : AsmOperand :=
  match cs with
  | '#' :: t => .bus t
  | ['N', d] =>
    match digitValue d with
    | some n => if h : n < 8 then .reg ⟨n, h⟩ else .name cs
    | none => .name cs
  | _ => .name cs

/-- The text between commas. -/
def splitCommas (cs : List Char) : List (List Char) :=
  match cs with
  | [] => [[]]
  | c :: rest =>
    match c, splitCommas rest with
    | ',', ps => [] :: ps
    | _, p :: ps => (c :: p) :: ps
    | _, [] => [[c]]

/-- The text without the blanks around it. -/
def trimBlanks (cs : List Char) : List Char :=
  ((cs.dropWhile (· = ' ')).reverse.dropWhile (· = ' ')).reverse

/-- The operands of a line, from the text after its mnemonic. -/
def readOperands (cs : List Char) : List AsmOperand :=
  match trimBlanks cs with
  | [] => []
  | t => (splitCommas t).map (fun p => readOperand (trimBlanks p))

/-- CSRR's operand: CFG, STATUS, ID, or `#n` for an index (30_encoding.md R81). -/
def readCsr (o : AsmOperand) : Option CsrIndex :=
  match o with
  | .name ['C', 'F', 'G'] => some 0
  | .name ['S', 'T', 'A', 'T', 'U', 'S'] => some 1
  | .name ['I', 'D'] => some 2
  | .bus t =>
    match readUnsigned t with
    | some n => if h : n < 8 then some ⟨n, h⟩ else none
    | none => none
  | _ => none

/-! ### Lines -/

/-- Every command of the opcode map, with its register fields zero (30_encoding.md R74). -/
def templates : List Instr :=
  [.nop, .ldzero 0, .ldone 0, .ldpi 0, .lde 0, .ldhpi 0, .new 0, .fromi 0, .fromu 0, .fromf 0, .fraconly 0, .ldraw 0,
    .mov 0 0, .add 0 0 0, .sub 0 0 0, .addi 0 0, .subi 0 0, .addf 0 0, .subf 0 0, .neg 0 0, .mul 0 0 0, .muli 0 0,
    .mulf 0 0, .div 0 0 0, .shl 0 0, .shr 0 0, .floor 0 0, .cmp 0 0, .toi 0, .tof 0, .rdraw 0, .cfgw, .csrr 0, .clrst]

/-- The commands whose bus operand is a binary64 value (30_encoding.md R77). -/
def takesFloat (i : Instr) : Bool :=
  match i with
  | .fromf _ | .addf _ _ | .subf _ _ | .mulf _ _ => true
  | _ => false

/-- The most bus operands a command is written with: two for NEW, one for the others that read OPA (30_encoding.md R77, R81). -/
def busOperands (i : Instr) : Nat :=
  match i with
  | .new _ => 2
  | .fromi _ | .fromu _ | .fromf _ | .fraconly _ | .ldraw _ | .addi _ _ | .subi _ _ | .addf _ _ | .subf _ _ | .muli _ _
  | .mulf _ _ | .shl _ _ | .shr _ _ | .cfgw => 1
  | _ => 0

/-- The value of one bus operand of a command, an omitted one being zero. -/
def readBus (i : Instr) (t : List Char) : Option Word :=
  if takesFloat i then (readFloat t).map (fun p => p.setWidth 128) else (readInteger t).map bits128

/-- The command of `i`'s opcode with its register fields and the operands written after them. -/
def withBuses (i : Instr) (rd rs1 rs2 : NumReg) (csr : CsrIndex) (ops : List AsmOperand) : Option Command :=
  let w := packWord (opField (encode i)) rd rs1 rs2 csr
  match ops with
  | [] => some { word := w, opa := 0, opb := 0 }
  | [.bus a] => if 1 ≤ busOperands i then (readBus i a).map (fun x => { word := w, opa := x, opb := 0 }) else none
  | [.bus a, .bus b] =>
    if 2 ≤ busOperands i then
      match readBus i a, readBus i b with
      | some x, some y => some { word := w, opa := x, opb := y }
      | _, _ => none
    else none
  | _ => none

/-- The command of `i`'s opcode with the operands written: the registers its format uses, then its bus operands. -/
def withOperands (i : Instr) (ops : List AsmOperand) : Option Command :=
  match opcodeFormat (opField (encode i)).toNat, ops with
  | some .z, rest => withBuses i 0 0 0 0 rest
  | some .d, .reg rd :: rest => withBuses i rd 0 0 0 rest
  | some .ds, .reg rd :: .reg a :: rest => withBuses i rd a 0 0 rest
  | some .dss, .reg rd :: .reg a :: .reg b :: rest => withBuses i rd a b 0 rest
  | some .s, .reg a :: rest => withBuses i 0 a 0 0 rest
  | some .ss, .reg a :: .reg b :: rest => withBuses i 0 a b 0 rest
  | some .c, [o] =>
    match readCsr o with
    | some csr => withBuses i 0 0 0 csr []
    | none => none
  | _, _ => none

/-- The pseudo-instruction of a mnemonic and its operands (30_encoding.md R82). -/
def readPseudo (m : List Char) (ops : List AsmOperand) : Option Pseudo :=
  match ops with
  | [.reg d, .reg a] =>
    if m = "HALF".toList then some (.half d a)
    else if m = "DOUBLE".toList then some (.double d a)
    else if m = "INC".toList then some (.inc d a)
    else none
  | [.reg d] => if m = "CLR".toList then some (.clr d) else none
  | [] => if m = "NUMBITS".toList then some .numbits else if m = "NFBITS".toList then some .nfbits else none
  | [.bus t] => if m = "SETF".toList then (readInteger t).map .setf else none
  | _ => none

/-- One line of the notation, `MNEMONIC operands`: the command it stands for, none where it is not in the grammar
(30_encoding.md R81, R82). -/
def assembleLine (line : List Char) : Option Command :=
  let parts := splitAtChar ' ' (trimBlanks line)
  let ops := readOperands (parts.2.getD [])
  match templates.find? (fun i => (mnemonic i).toList = parts.1) with
  | some i => withOperands i ops
  | none => (readPseudo parts.1 ops).map expandPseudo

end Sys2Proof.Machine
end

