-- ==== Sys2Proof/Tests/Slice0.lean ====
section
/-! SUPPORT. Tests of the model. Expected results come from the spec: the vectors V<n> and programs P<n> of
95_test_vectors.md, which the spec derives from its rules, and words written out from 30_encoding.md R71–R74. -/

namespace Sys2Proof.Tests

open Sys2Proof.Machine

/-! ### Helpers -/

/-- A state with F, N1, N2 and the sampled buses given, the rest as after reset. -/
def start (f : BitVec 7) (n1 n2 : Word) (opa : Word := 0) (opb : Word := 0) : State :=
  let s := (State.reset.setNum 1 n1).setNum 2 n2
  { s with cfg := { s.cfg with f := f }, opa := opa, opb := opb }

/-- N[r] after a command. -/
def numAfter (o : Outcome) (r : NumReg) : Option Word :=
  match o with
  | .next t => some (t.num r)
  | _ => none

/-- RES after a command. -/
def resAfter (o : Outcome) : Option Word :=
  match o with
  | .next t => some t.res
  | _ => none

/-- The word of STATUS after a command. -/
def statusAfter (o : Outcome) : Option (BitVec 32) :=
  match o with
  | .next t => some t.statusO
  | _ => none

/-- The word of CFG after a command. -/
def cfgAfter (o : Outcome) : Option (BitVec 32) :=
  match o with
  | .next t => some (cfgWord t.cfg)
  | _ => none

/-! ### Ill-formed words: one for each check of WellFormed.lean -/

/-- V220: RSV bit 18 set on NOP. -/
theorem test_wf_reserved_bits : reservedBitsZero 0x00040000 = false ∧ wordWellFormed 0x00040000 = false := by decide

/-- V218: the reserved opcode 0x0D. -/
theorem test_wf_reserved_opcode : opcodeAssigned 0x0000000D = false ∧ wordWellFormed 0x0000000D = false := by decide

/-- V221: LDZERO with RS1 = 1. -/
theorem test_wf_unused_field : unusedFieldsZero 0x00000201 = false ∧ wordWellFormed 0x00000201 = false := by decide

/-- V225, V222, V226, V224 and bit 12 on MOV: an unused field in the formats Z, S, SS, C and DS. -/
theorem test_wf_unused_by_format : wordWellFormed 0x000001C0 = false ∧ wordWellFormed 0x00000061 = false ∧
    wordWellFormed 0x000022E0 = false ∧ wordWellFormed 0x00000071 = false ∧ wordWellFormed 0x000012CC = false := by decide

/-- A legal word passes: V60, ADD N3, N1, N2. -/
theorem test_wf_legal : wordWellFormed 0x000022D0 = true := by decide

/-! ### The decoder: one word of each command, from 30_encoding.md R71–R74 (the W column of 95_test_vectors.md) -/

theorem test_decode_nop : decode 0x00000000 = .ok .nop := by decide

theorem test_decode_ldzero : decode 0x000000C1 = .ok (.ldzero 3) := by decide

theorem test_decode_ldone : decode 0x000000C2 = .ok (.ldone 3) := by decide

theorem test_decode_ldpi : decode 0x000000C3 = .ok (.ldpi 3) := by decide

theorem test_decode_lde : decode 0x000000C4 = .ok (.lde 3) := by decide

theorem test_decode_ldhpi : decode 0x000000C5 = .ok (.ldhpi 3) := by decide

theorem test_decode_new : decode 0x000000C6 = .ok (.new 3) := by decide

theorem test_decode_fromi : decode 0x000000C7 = .ok (.fromi 3) := by decide

theorem test_decode_fromu : decode 0x000000C8 = .ok (.fromu 3) := by decide

theorem test_decode_fromf : decode 0x000000C9 = .ok (.fromf 3) := by decide

theorem test_decode_fraconly : decode 0x000000CA = .ok (.fraconly 3) := by decide

theorem test_decode_ldraw : decode 0x000000CB = .ok (.ldraw 3) := by decide

theorem test_decode_mov : decode 0x000002CC = .ok (.mov 3 1) := by decide

theorem test_decode_add : decode 0x000022D0 = .ok (.add 3 1 2) := by decide

theorem test_decode_sub : decode 0x000022D1 = .ok (.sub 3 1 2) := by decide

theorem test_decode_addi : decode 0x000002D2 = .ok (.addi 3 1) := by decide

theorem test_decode_subi : decode 0x000002D3 = .ok (.subi 3 1) := by decide

theorem test_decode_addf : decode 0x000002D4 = .ok (.addf 3 1) := by decide

theorem test_decode_subf : decode 0x000002D5 = .ok (.subf 3 1) := by decide

theorem test_decode_neg : decode 0x000002D6 = .ok (.neg 3 1) := by decide

theorem test_decode_mul : decode 0x000022D8 = .ok (.mul 3 1 2) := by decide

theorem test_decode_muli : decode 0x000002D9 = .ok (.muli 3 1) := by decide

theorem test_decode_mulf : decode 0x000002DA = .ok (.mulf 3 1) := by decide

theorem test_decode_div : decode 0x000022DB = .ok (.div 3 1 2) := by decide

theorem test_decode_shl : decode 0x000002DC = .ok (.shl 3 1) := by decide

theorem test_decode_shr : decode 0x000002DD = .ok (.shr 3 1) := by decide

theorem test_decode_floor : decode 0x000002DE = .ok (.floor 3 1) := by decide

theorem test_decode_cmp : decode 0x00002220 = .ok (.cmp 1 2) := by decide

theorem test_decode_toi : decode 0x00000221 = .ok (.toi 1) := by decide

theorem test_decode_tof : decode 0x00000222 = .ok (.tof 1) := by decide

theorem test_decode_rdraw : decode 0x00000223 = .ok (.rdraw 1) := by decide

theorem test_decode_cfgw : decode 0x00000030 = .ok .cfgw := by decide

theorem test_decode_csrr : decode 0x00010031 = .ok (.csrr 2) := by decide

theorem test_decode_clrst : decode 0x00000032 = .ok .clrst := by decide

/-- 95_test_vectors.md, "Encoding check": W = 0x10 | 3<<6 | 1<<9 | 2<<12, written out bit by bit as
RSV CSR RS2 RS1 RD OP. -/
theorem test_decode_add_bits : decode 0b00000000000000_000_010_001_011_010000 = .ok (.add 3 1 2) := by decide

/-- Distinct values in every field: P1 step 9, SUB N6, N4, N3. -/
theorem test_encode_sub : encode (.sub 6 4 3) = 0x00003991 := by decide

/-- V220, V218, V222: the three reasons a word is illegal. -/
theorem test_decode_rejects : decode 0x00040000 = .error .reservedBits ∧ decode 0x0000000D = .error .reservedOpcode ∧
    decode 0x00000061 = .error .unusedField := by decide

/-- V215: CSRR with a reserved index decodes. -/
theorem test_decode_csrr_reserved : decode 0x00038031 = .ok (.csrr 7) := by decide

/-- The host's table word of V58 (MOV). -/
theorem test_table_word : decodeTableWord 32 0x000002CC = some (.mov 3 1) := by decide

/-! ### Meanings: vectors of 95_test_vectors.md -/

/-- V1. -/
theorem test_ldzero : numAfter (exec (.ldzero 1) (start 8 5 0)) 1 = some 0x0 := by decide

/-- V4. -/
theorem test_ldone_f64 : numAfter (exec (.ldone 3) (start 64 0 0)) 3 = some 0x10000000000000000 := by decide

/-- V8. -/
theorem test_ldpi_f28 : numAfter (exec (.ldpi 3) (start 28 0 0)) 3 = some 0x3243F6A8 := by decide

/-- V6. -/
theorem test_lde : numAfter (exec (.lde 3) (start 8 0 0)) 3 = some 0x2B7 := by decide

/-- V12. -/
theorem test_ldhpi_f1 : numAfter (exec (.ldhpi 3) (start 1 0 0)) 3 = some 0x3 := by decide

/-- V14. -/
theorem test_new_negative : numAfter (exec (.new 3) (start 8 0 0 0xffffffffffffffffffffffffffffffff 128)) 3 = some 0xffffffffffffffffffffffffffffff80 := by decide

/-- V17, and V18: the same operand fits when IMAX_SLACK = 1. -/
theorem test_new_bound : statusAfter (exec (.new 3) (start 8 0 0 0x7fffffffffffffffffffffffffffff)) = some 0x71 ∧
    numAfter (exec (.new 3) (({ start 8 0 0 0x7fffffffffffffffffffffffffffff with imaxSlack := .one } : State))) 3 =
      some 0x7fffffffffffffffffffffffffffff00 := by decide

/-- V23. -/
theorem test_fromi : numAfter (exec (.fromi 3) (start 8 0 0 0xfffffffffffffffffffffffffffffffb)) 3 = some 0xfffffffffffffffffffffffffffffb00 := by decide

/-- V26. -/
theorem test_fromi_bound : statusAfter (exec (.fromi 3) (start 64 0 0 0x7fffffffffffffff)) = some 0x71 := by decide

/-- V29: UNREPRESENTABLE_CONVERSION comes first. -/
theorem test_fromu_order : statusAfter (exec (.fromu 3) (start 8 0 0 0xffffffffffffffffffffffffffffffff)) = some 0x73 := by decide

/-- V30. -/
theorem test_fromu_bound : statusAfter (exec (.fromu 3) (start 8 0 0 0x7fffffffffffffffffffffffffffffff)) = some 0x71 := by decide

/-- V33. -/
theorem test_fromf_biased_carry : numAfter (exec (.fromf 3) (start 8 0 0 0x3FEFF7CED916872B)) 3 = some 0x100 := by decide

/-- V34: RM = 1. -/
theorem test_fromf_trunc : numAfter (exec (.fromf 3) ({ start 8 0 0 0x3FEFF7CED916872B with cfg := { f := 8, rm := .trunc, dr := .towardZero } } : State)) 3 = some 0xFF := by decide

/-- V56. -/
theorem test_fraconly_ignores_high : numAfter (exec (.fraconly 3) (start 8 0 0 0x18000000000000000)) 3 = some 0x80 := by decide

/-- V57. -/
theorem test_ldraw : numAfter (exec (.ldraw 3) (start 8 0 0 0x80000000000000000000000000000000)) 3 = some 0x80000000000000000000000000000000 := by decide

/-- V58. -/
theorem test_mov : numAfter (exec (.mov 3 1) (start 8 0x324 0)) 3 = some 0x324 := by decide

/-- V64. -/
theorem test_add_same_source : numAfter (exec (.add 3 1 1) (start 8 0x340 0)) 3 = some 0x680 := by decide

/-- V61. -/
theorem test_add_overflow : statusAfter (exec (.add 3 1 2) (start 8 0x7fffffffffffffffffffffffffffffff 1)) = some 0x75 := by decide

/-- V65. -/
theorem test_sub : numAfter (exec (.sub 3 1 2) (start 8 0x100 0x340)) 3 = some 0xfffffffffffffffffffffffffffffdc0 := by decide

/-- V66. -/
theorem test_sub_overflow : statusAfter (exec (.sub 3 1 2) (start 8 0 0x80000000000000000000000000000000)) = some 0x75 := by decide

/-- V69. -/
theorem test_addi : numAfter (exec (.addi 3 1) (start 8 0x340 0 0xfffffffffffffffffffffffffffffffb)) 3 = some 0xfffffffffffffffffffffffffffffe40 := by decide

/-- V70. -/
theorem test_addi_scaled_check_first : statusAfter (exec (.addi 3 1) (start 8 0x80000000000000000000000000000005 0 0x800000000000000000000000000000)) = some 0x75 := by decide

/-- V75. -/
theorem test_subi : numAfter (exec (.subi 3 1) (start 8 0xffffffffffffffffffffffffffffffff 0 0xff800000000000000000000000000000)) 3 = some 0x7fffffffffffffffffffffffffffffff := by decide

/-- V81. -/
theorem test_addf_negative : numAfter (exec (.addf 3 1) (start 8 0x100 0 0xBFE6666666666666)) 3 = some 0x4D := by decide

/-- V88. -/
theorem test_addf_infinity : statusAfter (exec (.addf 3 1) (start 8 0 0 0xFFF0000000000000)) = some 0x72 := by decide

/-- V83. -/
theorem test_subf_negative : numAfter (exec (.subf 3 1) (start 8 0x100 0 0xBFE6666666666666)) 3 = some 0x1B3 := by decide

/-- V90. -/
theorem test_subf_nan : statusAfter (exec (.subf 3 1) (start 8 0x100 0 0x7FF8000000000000)) = some 0x72 := by decide

/-- V92. -/
theorem test_neg : numAfter (exec (.neg 3 1) (start 8 0x340 0)) 3 = some 0xfffffffffffffffffffffffffffffcc0 := by decide

/-- V93. -/
theorem test_neg_most_negative : statusAfter (exec (.neg 3 1) (start 8 0x80000000000000000000000000000000 0)) = some 0x75 := by decide

/-- V102. -/
theorem test_mul_floors : numAfter (exec (.mul 3 1 2) (start 8 0xffffffffffffffffffffffffffffffff 1)) 3 = some 0xffffffffffffffffffffffffffffffff := by decide

/-- V105. -/
theorem test_mul_wide : numAfter (exec (.mul 3 1 2) (start 8 0x80000000000000000 0x80000000000000000)) 3 = some 0x40000000000000000000000000000000 := by decide

/-- V111. -/
theorem test_muli_unscaled : numAfter (exec (.muli 3 1) (start 8 0x340 0 0xfffffffffffffffffffffffffffffffe)) 3 = some 0xfffffffffffffffffffffffffffffff9 := by decide

/-- V117. -/
theorem test_mulf_truncates : numAfter (exec (.mulf 3 1) (start 8 0x340 0 0xBFB999999999999A)) 3 = some 0xffffffffffffffffffffffffffffffae := by decide

/-- V123. -/
theorem test_div_toward_zero : numAfter (exec (.div 3 1 2) (start 8 0xfffffffffffffffffffffffffffffcc0 0x180)) 3 = some 0xfffffffffffffffffffffffffffffdd6 := by decide

/-- V124: DR = 1. -/
theorem test_div_toward_neg_inf : numAfter (exec (.div 3 1 2) ({ start 8 0xfffffffffffffffffffffffffffffcc0 0x180 with cfg := { f := 8, rm := .biased, dr := .towardNegInf } } : State)) 3 = some 0xfffffffffffffffffffffffffffffdd5 := by decide

/-- V151. -/
theorem test_shl_edge : numAfter (exec (.shl 3 1) (start 8 0xc0000000000000000000000000000000 0 1)) 3 = some 0x80000000000000000000000000000000 := by decide

/-- V147: the count is not reduced. -/
theorem test_shl_range : statusAfter (exec (.shl 3 1) (start 8 0 0 0x10000000000000000000000000)) = some 0x77 := by decide

/-- V153. -/
theorem test_shr_negative : numAfter (exec (.shr 3 1) (start 8 0xfffffffffffffffffffffffffffffcbf 0 1)) 3 = some 0xfffffffffffffffffffffffffffffe5f := by decide

/-- V157. -/
theorem test_shr_range : statusAfter (exec (.shr 3 1) (start 8 0xffffffffffffffffffffffffffffffff 0 127)) = some 0x77 := by decide

/-- V161. -/
theorem test_floor_negative : numAfter (exec (.floor 3 1) (start 8 0xfffffffffffffffffffffffffffffcc0 0)) 3 = some 0xfffffffffffffffffffffffffffffc00 := by decide

/-- V173. -/
theorem test_cmp_signed : statusAfter (exec (.cmp 1 2) (start 8 0x80000000000000000000000000000000 0x7fffffffffffffffffffffffffffffff)) = some 0x20 := by decide

/-- V177. -/
theorem test_toi_floors : resAfter (exec (.toi 1) (start 8 0xfffffffffffffffffffffffffffffcc0 0)) = some 0xfffffffffffffffffffffffffffffffc := by decide

/-- V190. -/
theorem test_tof_rounds_down : resAfter (exec (.tof 1) (start 8 0xffffffffffffffffefffffffffffffff 0)) = some 0xC330000000000001 := by decide

/-- V187, V188: the extreme values. -/
theorem test_tof_carry : resAfter (exec (.tof 1) (start 8 0x7fffffffffffffffffffffffffffffff 0)) = some 0x475FFFFFFFFFFFFF ∧ resAfter (exec (.tof 1) (start 8 0x80000000000000000000000000000000 0)) = some 0xC760000000000000 := by decide

/-- V195. -/
theorem test_rdraw : resAfter (exec (.rdraw 1) (start 8 0xffffffffffffffffffffffffffffff80 0)) = some 0xffffffffffffffffffffffffffffff80 := by decide

/-- V201. -/
theorem test_nop_keeps_sticky : statusAfter (exec .nop (State.reset.withError .constructionOverflow)) = some 0x70 := by decide

/-- V202. -/
theorem test_cfgw : cfgAfter (exec .cfgw (start 8 0 0 0x21C)) = some 0x21C := by decide

/-- V208: refused whole. -/
theorem test_cfgw_bit_seven : cfgAfter (exec .cfgw (start 8 0 0 0x88)) = some 0x8 ∧ statusAfter (exec .cfgw (start 8 0 0 0x88)) = some 0x78 := by decide

/-- V212. -/
theorem test_csrr_status_before : resAfter (exec (.csrr 1) (State.reset.withError .constructionOverflow)) = some 0x71 ∧ statusAfter (exec (.csrr 1) (State.reset.withError .constructionOverflow)) = some 0x70 := by decide

/-- V213, V214. -/
theorem test_csrr_id : resAfter (exec (.csrr 2) State.reset) = some 0x32400180 ∧ statusAfter (exec (.csrr 3) State.reset) = some 0x78 := by decide

/-- V216. -/
theorem test_clrst : statusAfter (exec .clrst (State.reset.withError .constructionOverflow)) = some 0x60 := by decide

/-! ### Steps -/

/-- After reset CFG = 0x8 and STATUS = 0x60 (10_state.md R36). -/
theorem test_reset_words : cfgWord State.reset.cfg = 0x8 ∧ State.reset.statusO = 0x60 := by decide

/-- V218 as a step: a reserved opcode is accepted, raises ILLEGAL_OPERATION and counts as a command. -/
theorem test_step_illegal : statusAfter (step (State.reset.withFetchWord 32 0x0000000D)) = some 0x78 := by decide

/-- V2 as a step. -/
theorem test_step_ldone : numAfter (step (State.reset.withFetchWord 32 0x000000C2)) 3 = some 0x100 := by decide

/-- Reset asserted together with a command: the command is abandoned (70_reset_and_hazards.md R230). -/
theorem test_step_reset : numAfter (step ((start 28 5 6).drive (assertReset true (assemble (.ldone 1))))) 1 = some 0 ∧
    cfgAfter (step ((start 28 5 6).drive (assertReset true (assemble (.ldone 1))))) = some 0x8 := by decide

/-- With nothing on the ports the unit waits (70_reset_and_hazards.md R231). -/
theorem test_step_idle : step State.reset = .next State.reset := rfl

/-- R82's HALF, on V152's operand. -/
theorem test_pseudo_half : expandPseudo (.half 3 1) = { word := 0x000002DD, opa := 1, opb := 0 } := by decide

/-- R206's `num_bits()` and `num_fract_bits()`, E12: 128, and F = 28 after `CFGW #28`. -/
theorem test_contract_introspection :
    (match exec (contractCommand .numBits 0 0 0) State.reset with | .next t => t.numBits | _ => 0) = 128 ∧
    (match exec (contractCommand .numFractBits 0 0 0) (start 28 0 0) with | .next t => t.numFractBits | _ => 0) = 28 := by decide

/-- R206's arithmetic row, on V60's and V69's commands. -/
theorem test_contract_arithmetic : (contractCall .add 3 1 2).word = 0x000022D0 ∧
    contractCall .addi 3 1 0 (-5) = assemble (.addi 3 1) (-5) := by decide

/-- R81's notation, on V69's command. -/
theorem test_asm_text : asmText (.addi 3 1) [-5] = "ADDI N3, N1, #-5" := by decide

/-- R81's notation read, P1 step 3, V69 and a control register by name. -/
theorem test_asm_line :
    assembleLine "NEW N2, #2, #128".toList = some { word := 0x00000086, opa := 2, opb := 0x80 } ∧
    (assembleLine "ADDI N3, N1, #-5".toList).map (·.word) = some 0x000002D2 ∧
    assembleLine "CSRR ID".toList = some { word := 0x00010031, opa := 0, opb := 0 } := by decide

/-! ### Witnesses: a concrete state and operands that meet the hypotheses of each statement, clause by clause, at boundary values
where a clause has a range -/

/-- A state in which the host offers the command `c` and then a NOP. -/
def offered (c : Command) : State := (State.reset.drive (offer (assemble .nop))).drive (offer c)

/-- Hypotheses of `EncodeOfDecode`: the smallest and the largest legal word. -/
theorem witness_EncodeOfDecode : decode 0x00000000 = .ok .nop ∧ decode 0x00038031 = .ok (.csrr 7) := by decide

/-- Hypotheses of `StepRunsTheDecodedCommand` and `CommandIndexAdvancesByOne`. -/
theorem witness_StepRunsTheDecodedCommand :
    (offered (assemble (.add 3 1 2))).pending = offer (assemble (.add 3 1 2)) :: [offer (assemble .nop)] ∧
      decode (assemble (.add 3 1 2)).word = .ok (.add 3 1 2) := by decide

/-- Hypotheses of `CommandIndexAdvancesByOne`, with an illegal word. -/
theorem witness_CommandIndexAdvancesByOne :
    (offered { word := 0xFFFFFFFF, opa := 0, opb := 0 }).pending =
      offer { word := 0xFFFFFFFF, opa := 0, opb := 0 } :: [offer (assemble .nop)] := by decide

/-- Hypotheses of `IllegalWordChangesOnlyStatus`. -/
theorem witness_IllegalWordChangesOnlyStatus :
    (offered { word := 0x0000003F, opa := 0, opb := 0 }).pending =
        offer { word := 0x0000003F, opa := 0, opb := 0 } :: [offer (assemble .nop)] ∧
      wordWellFormed 0x0000003F = false := by decide

/-- Hypotheses of `ResetAbandonsAnyCommand`, with and without a command. -/
theorem witness_ResetAbandonsAnyCommand :
    ((start 28 5 6).drive (assertReset true (assemble (.ldone 1)))).pending = assertReset true (assemble (.ldone 1)) :: [] ∧
      ((start 28 5 6).drive (assertReset false (assemble .nop))).pending = assertReset false (assemble .nop) :: [] := ⟨rfl, rfl⟩

/-- Hypotheses of `IdleUnitHoldsItsState`, both clauses. -/
theorem witness_IdleUnitHoldsItsState :
    (start 28 5 6).pending = [] ∧
      ((start 28 5 6).drive { rst := false, valid := false, cmd := assemble (.ldone 1) }).pending =
        { rst := false, valid := false, cmd := assemble (.ldone 1) } :: [] := by decide

/-- Hypotheses of `StepKeepsInvariant`: a state with an error in STATUS and a command offered. -/
theorem witness_StepKeepsInvariant :
    ((offered (assemble (.ldone 1))).withError .arithOverflow).Inv ∧
      ∃ t, step ((offered (assemble (.ldone 1))).withError .arithOverflow) = .next t :=
  ⟨by decide, _, rfl⟩

/-- Hypotheses of `ErrorsArePrecise`, of `OnlyReadoutsWriteRes` (a failure) and of `ErrorCodesAreThoseOfTheTable` (any next state). -/
theorem witness_ErrorsArePrecise :
    ∃ t, exec (.div 3 1 2) (start 8 5 0) = .next t ∧ t.status.err ≠ .none ∧ writesRes (.div 3 1 2) = false :=
  ⟨(start 8 5 0).withError .divideByZero, rfl, by decide, rfl⟩

/-- Hypotheses of `SuccessKeepsStickyAndCmp`. -/
theorem witness_SuccessKeepsStickyAndCmp :
    ∃ t, exec .nop (State.reset.withError .arithOverflow) = .next t ∧ t.status.err = .none ∧ Instr.nop ≠ .clrst ∧
      ∀ a b, Instr.nop ≠ .cmp a b :=
  ⟨_, rfl, rfl, by decide, by decide⟩

/-- Hypotheses of `OnlyClrstClearsSticky`. -/
theorem witness_OnlyClrstClearsSticky :
    ∃ t, exec .nop (State.reset.withError .arithOverflow) = .next t ∧ Instr.nop ≠ .clrst ∧
      (State.reset.withError .arithOverflow).status.sticky = true :=
  ⟨_, rfl, by decide, rfl⟩

/-- Hypotheses of `OnlyReadoutsWriteRes`, a success that writes no RES. -/
theorem witness_OnlyReadoutsWriteRes : ∃ t, exec (.mov 3 1) (start 8 5 0) = .next t ∧ writesRes (.mov 3 1) = false :=
  ⟨_, rfl, rfl⟩

/-- Hypotheses of `OnlyCfgwWritesCfg`: a command that is not CFGW, a CFGW that succeeds and one that is refused. -/
theorem witness_OnlyCfgwWritesCfg :
    (∃ t, exec (.mov 3 1) (start 8 5 0) = .next t ∧ Instr.mov 3 1 ≠ .cfgw) ∧
    (∃ t, exec .cfgw (start 8 5 0 0x21C) = .next t) ∧
    (∃ t, exec .cfgw (start 8 5 0 0) = .next t ∧ t.status.err ≠ .none) :=
  ⟨⟨_, rfl, by decide⟩, ⟨_, rfl⟩, ⟨(start 8 5 0 0).withError .illegalOperation, rfl, by decide⟩⟩

/-- Hypotheses of `OnlyTheDestinationIsWritten`. -/
theorem witness_OnlyTheDestinationIsWritten :
    ∃ t, exec (.mov 3 1) (start 8 5 0) = .next t ∧ destReg (.mov 3 1) ≠ some 1 := ⟨_, rfl, by decide⟩

/-- Hypotheses of `UnreadBusesHaveNoEffect`, with buses that differ where the command does not read them. -/
theorem witness_UnreadBusesHaveNoEffect :
    ∃ t, SameRead (opaRead (.fraconly 3)) (start 8 5 0 1).opa 0x10000000000000001 ∧
      SameRead (opbRead (.fraconly 3)) (start 8 5 0 1).opb 7 ∧ exec (.fraconly 3) (start 8 5 0 1) = .next t :=
  ⟨_, by show BitVec.extractLsb' 0 64 _ = BitVec.extractLsb' 0 64 _; decide, trivial, rfl⟩

/-- Hypotheses of `ResultDoesNotDependOnDestination`. -/
theorem witness_ResultDoesNotDependOnDestination :
    ∃ t, destReg (.add 3 1 1) = some 3 ∧ exec (.add 3 1 1) (start 8 5 0) = .next t ∧ t.status.err = .none :=
  ⟨((start 8 5 0).setNum 3 10).noError, rfl, rfl, rfl⟩

/-- `LegalF`, the hypothesis of `LdzeroLdoneResults`, `ConstantsAreTheTruncatedReals`, `FraconlyTruncatesTheFraction`,
`FloorClearsTheFraction`, `TofIsTheLargestBinary64Below` and `TofIsZeroOrNormal`, at both ends of its range. -/
theorem witness_LegalF : (start 1 5 6).LegalF ∧ (start 64 5 6).LegalF := by decide

/-- Hypotheses of the clauses of `NewResultOrOverflow` at the bound: V16, V17 and V21. -/
theorem witness_NewResultOrOverflow :
    (start 8 0 0 0x7FFFFFFFFFFFFFFFFFFFFFFFFFFFFE 255).LegalF ∧
    (|sint (start 8 0 0 0x7FFFFFFFFFFFFFFFFFFFFFFFFFFFFE 255).opa| ≤ 2 ^ (127 - 8) - (slackNat .two : ℤ) ∧
      (start 8 0 0 0x7FFFFFFFFFFFFFFFFFFFFFFFFFFFFE 255).opb.toNat < 2 ^ 8) ∧
    ¬ (|sint (start 8 0 0 0x7FFFFFFFFFFFFFFFFFFFFFFFFFFFFF 0).opa| ≤ 2 ^ (127 - 8) - (slackNat .two : ℤ)) ∧
    ¬ ((start 8 0 0 0 256).opb.toNat < 2 ^ 8) := by decide

/-- Hypotheses of the clauses of `FromiResultOrOverflow` at the bound: V25, V26. -/
theorem witness_FromiResultOrOverflow :
    |sint (start 64 0 0 0x7FFFFFFFFFFFFFFE).opa| ≤ 2 ^ (127 - 64) - (slackNat .two : ℤ) ∧
    ¬ |sint (start 64 0 0 0x7FFFFFFFFFFFFFFF).opa| ≤ 2 ^ (127 - 64) - (slackNat .two : ℤ) := by decide

/-- Hypotheses of the clauses of `FromuResultOrError` at their bounds: V28, V30 and IMAX(8). -/
theorem witness_FromuResultOrError :
    2 ^ 127 ≤ (start 8 0 0 0x80000000000000000000000000000000).opa.toNat ∧
    ((start 8 0 0 0x7FFFFFFFFFFFFFFFFFFFFFFFFFFFFFFF).opa.toNat < 2 ^ 127 ∧
      (2 : ℤ) ^ (127 - 8) - (slackNat .two : ℤ) < ((start 8 0 0 0x7FFFFFFFFFFFFFFFFFFFFFFFFFFFFFFF).opa.toNat : ℤ)) ∧
    ((start 8 0 0 0x7FFFFFFFFFFFFFFFFFFFFFFFFFFFFE).opa.toNat : ℤ) ≤ 2 ^ (127 - 8) - (slackNat .two : ℤ) := by
  decide

/-- The float clauses: a non-finite operand, a finite one (2.5) and two at the edge of the range (±2^119 at F = 8), as the
statements about FROMF, ADDF, SUBF and MULF take them. -/
theorem witness_float_operands :
    f64Rational ((start 8 0 0 0x7FF0000000000000).opa.extractLsb' 0 64) = none ∧
    f64Rational ((start 8 0x100 0 0x4004000000000000).opa.extractLsb' 0 64) = some (5 / 2) ∧
    f64Rational ((start 8 0 0 0x4760000000000000).opa.extractLsb' 0 64) = some (2 ^ 119) ∧
    f64Rational ((start 8 0 0 0xC760000000000000).opa.extractLsb' 0 64) = some (-(2 ^ 119)) := by decide +kernel

/-- Hypotheses of the clauses of `FromfRoundsExactly`: a non-finite operand, one beyond the bound, and 2.5 in both modes. -/
theorem witness_FromfRoundsExactly :
    (∃ s : State, s.LegalF ∧ f64Rational (s.opa.extractLsb' 0 64) = none) ∧
    (∃ (s : State) (x : ℚ), s.LegalF ∧ f64Rational (s.opa.extractLsb' 0 64) = some x ∧
      2 ^ (127 - s.fracBits) - (slackNat s.imaxSlack : ℤ) < |ratTrunc x|) ∧
    ∀ m : RoundMode, ∃ (s : State) (x : ℚ), s.LegalF ∧ f64Rational (s.opa.extractLsb' 0 64) = some x ∧
      |ratTrunc x| ≤ 2 ^ (127 - s.fracBits) - (slackNat s.imaxSlack : ℤ) ∧ s.cfg.rm = m := by
  refine ⟨⟨start 8 0 0 0x7FF0000000000000, by decide, witness_float_operands.1⟩,
    ⟨start 8 0 0 0x4760000000000000, 2 ^ 119, by decide, witness_float_operands.2.2.1, ?_⟩, fun m =>
    ⟨{ start 8 0x100 0 0x4004000000000000 with cfg := { f := 8, rm := m, dr := .towardZero } }, 5 / 2, ?_,
      witness_float_operands.2.1, ?_, rfl⟩⟩
  · have h : ratTrunc (2 ^ 119) = 2 ^ 119 := by
      rw [ratTrunc, if_pos (by positivity), show (2 : ℚ) ^ 119 = ((2 ^ 119 : ℤ) : ℚ) by norm_num, Int.floor_intCast]
    show 2 ^ (127 - 8) - (slackNat .two : ℤ) < |ratTrunc (2 ^ 119)|
    rw [h]
    norm_num [slackNat]
  · show 1 ≤ 8 ∧ 8 ≤ 64
    decide
  · show |ratTrunc (5 / 2)| ≤ 2 ^ (127 - 8) - (slackNat .two : ℤ)
    norm_num [ratTrunc, slackNat]

/-- Hypotheses of the clauses of `AddSubNegExactOrOverflow` at the ends of the range: V63, V61, V67, V66, V94, V93. -/
theorem witness_AddSubNegExactOrOverflow :
    (InRange (2 ^ 127 - 1) ∧ InRange (-(2 ^ 127)) ∧ ¬ InRange (2 ^ 127) ∧ ¬ InRange (-(2 ^ 127) - 1)) ∧
    sint ((start 8 0x7FFFFFFFFFFFFFFFFFFFFFFFFFFFFFFF 0).num 1) + sint ((start 8 0x7FFFFFFFFFFFFFFFFFFFFFFFFFFFFFFF 0).num 2)
      = 2 ^ 127 - 1 ∧
    sint ((start 8 0x7FFFFFFFFFFFFFFFFFFFFFFFFFFFFFFF 1).num 1) + sint ((start 8 0x7FFFFFFFFFFFFFFFFFFFFFFFFFFFFFFF 1).num 2)
      = 2 ^ 127 ∧
    sint ((start 8 0 0x80000000000000000000000000000000).num 1) - sint ((start 8 0 0x80000000000000000000000000000000).num 2)
      = 2 ^ 127 ∧
    sint ((start 8 0x80000000000000000000000000000000 0).num 1) = -(2 ^ 127) ∧
    sint ((start 8 0x7FFFFFFFFFFFFFFFFFFFFFFFFFFFFFFF 0).num 1) ≠ -(2 ^ 127) := by
  unfold InRange
  decide

/-- Hypotheses of the clauses of `AddiSubiExactOrOverflow`: V72 (fits), V70 (the scaled operand does not), V75 (SUBI fits). -/
theorem witness_AddiSubiExactOrOverflow :
    (InRange (sint (1 : Word) * 2 ^ 8) ∧ InRange ((2 ^ 127 - 257) + sint (1 : Word) * 2 ^ 8)) ∧
    ¬ InRange (sint (0x800000000000000000000000000000 : Word) * 2 ^ 8) ∧
    (InRange (sint (0xFF800000000000000000000000000000 : Word) * 2 ^ 8) ∧
      InRange (-1 - sint (0xFF800000000000000000000000000000 : Word) * 2 ^ 8)) := by
  unfold InRange
  decide

/-- Hypotheses of the clauses of `AddfSubfRoundAwayOrError`: a non-finite operand, 2.5 at F = 8, which encodes as 640 and fits, and
2^119, which encodes as 2^127 and does not. -/
theorem witness_AddfSubfRoundAwayOrError :
    (∃ s : State, f64Rational (s.opa.extractLsb' 0 64) = none) ∧
    (∃ (s : State) (x : ℚ) (c : ℤ), f64Rational (s.opa.extractLsb' 0 64) = some x ∧ c = ratRoundAway (x * 2 ^ s.fracBits) ∧
      InRange c ∧ InRange (sint (s.num 1) + c) ∧ InRange (sint (s.num 1) - c)) ∧
    ∃ (s : State) (x : ℚ) (c : ℤ), f64Rational (s.opa.extractLsb' 0 64) = some x ∧ c = ratRoundAway (x * 2 ^ s.fracBits) ∧
      ¬ InRange c := by
  refine ⟨⟨start 8 0 0 0x7FF0000000000000, witness_float_operands.1⟩,
    ⟨start 8 0x100 0 0x4004000000000000, 5 / 2, 640, witness_float_operands.2.1, ?_, ?_⟩,
    ⟨start 8 0 0 0x4760000000000000, 2 ^ 119, 2 ^ 127, witness_float_operands.2.2.1, ?_, ?_⟩⟩
  · show 640 = ratRoundAway (5 / 2 * 2 ^ 8)
    norm_num [ratRoundAway, abs_of_nonneg]
  · unfold InRange
    decide
  · show 2 ^ 127 = ratRoundAway (2 ^ 119 * 2 ^ 8)
    symm
    norm_num [ratRoundAway, Int.floor_eq_iff, abs_of_nonneg]
  · unfold InRange
    decide

/-- Hypotheses of `SubfIsAddfOfTheNegation`: 2.5 at F = 8. -/
theorem witness_SubfIsAddfOfTheNegation :
    f64Rational ((start 8 0x100 0 0x4004000000000000).opa.extractLsb' 0 64) = some (5 / 2) ∧
    |ratRoundAway (5 / 2 * 2 ^ (start 8 0x100 0 0x4004000000000000).fracBits)| ≠ 2 ^ 127 ∧
      ∃ t, exec (.subf 3 1) (start 8 0x100 0 0x4004000000000000) = .next t := by
  refine ⟨witness_float_operands.2.1, ?_, ?_⟩
  · show |ratRoundAway (5 / 2 * 2 ^ 8)| ≠ 2 ^ 127
    norm_num [ratRoundAway, abs_of_nonneg]
  · simp only [exec, execSubf]
    split
    · exact ⟨_, rfl⟩
    · exact ⟨_, rfl⟩
    · split
      · exact ⟨_, rfl⟩
      · unfold writeNumIfFits
        split <;> exact ⟨_, rfl⟩

/-- Hypotheses of `SubfIsAddfOfTheNegationAlways`, at the operand where R145's remark fails (log entry 6): x = −2^119 at F = 8
encodes as −2^127, and SUBF succeeds. -/
theorem witness_SubfIsAddfOfTheNegationAlways :
    f64Rational ((start 8 (-1) 0 0xC760000000000000).opa.extractLsb' 0 64) ≠ none ∧
    (start 8 (-1) 0 0xC760000000000000).LegalF ∧
      numAfter (exec (.subf 3 1) (start 8 (-1) 0 0xC760000000000000)) 3 = some 0x7FFFFFFFFFFFFFFFFFFFFFFFFFFFFFFF :=
  ⟨fun h => Option.some_ne_none _ (witness_float_operands.2.2.2.symm.trans h), by decide, by decide⟩

/-- Hypotheses of the clauses of `MulMuliFloorOrOverflow`: V107 (fits) and V108 (does not), the second factor in N2 for MUL and on OPA
for MULI. -/
theorem witness_MulMuliFloorOrOverflow :
    (∃ s : State, s.num 2 = s.opa ∧
      ⌊((sint (s.num 1) * sint (s.num 2) : ℤ) : ℚ) / 2 ^ s.fracBits⌋ = -(2 ^ 127) ∧ InRange (-(2 ^ 127))) ∧
    ∃ s : State, s.num 2 = s.opa ∧
      ⌊((sint (s.num 1) * sint (s.num 2) : ℤ) : ℚ) / 2 ^ s.fracBits⌋ = 2 ^ 127 ∧ ¬ InRange (2 ^ 127) := by
  refine ⟨⟨start 8 0x80000000000000000000000000000000 0x100 0x100, rfl, ?_, ?_⟩,
    ⟨start 8 0x80000000000000000000000000000000 (-0x100) (-0x100), rfl, ?_, ?_⟩⟩
  · show ⌊((sint (0x80000000000000000000000000000000 : Word) * sint (0x100 : Word) : ℤ) : ℚ) / 2 ^ 8⌋ = -(2 ^ 127)
    rw [show sint (0x80000000000000000000000000000000 : Word) = -(2 ^ 127) by decide, show sint (0x100 : Word) = 256 by decide]
    norm_num [Int.floor_eq_iff]
  · unfold InRange
    decide
  · show ⌊((sint (0x80000000000000000000000000000000 : Word) * sint (-0x100 : Word) : ℤ) : ℚ) / 2 ^ 8⌋ = 2 ^ 127
    rw [show sint (0x80000000000000000000000000000000 : Word) = -(2 ^ 127) by decide, show sint (-0x100 : Word) = -256 by decide]
    norm_num [Int.floor_eq_iff]
  · unfold InRange
    decide

/-- Hypotheses of the clauses of `MulfTruncatesThenFloors`: a non-finite operand, 2.5 at F = 8 (fits, V115's operand), and 2^119, whose
encoding does not fit. -/
theorem witness_MulfTruncatesThenFloors :
    (∃ s : State, f64Rational (s.opa.extractLsb' 0 64) = none) ∧
    (∃ (s : State) (x : ℚ) (c v : ℤ), f64Rational (s.opa.extractLsb' 0 64) = some x ∧ c = ratTrunc (x * 2 ^ s.fracBits) ∧
      v = ⌊((sint (s.num 1) * c : ℤ) : ℚ) / 2 ^ s.fracBits⌋ ∧ InRange c ∧ InRange v) ∧
    ∃ (s : State) (x : ℚ) (c v : ℤ), f64Rational (s.opa.extractLsb' 0 64) = some x ∧ c = ratTrunc (x * 2 ^ s.fracBits) ∧
      v = ⌊((sint (s.num 1) * c : ℤ) : ℚ) / 2 ^ s.fracBits⌋ ∧ ¬ (InRange c ∧ InRange v) := by
  refine ⟨⟨start 8 0 0 0x7FF0000000000000, witness_float_operands.1⟩,
    ⟨start 8 0x100 0 0x4004000000000000, 5 / 2, 640, 640, witness_float_operands.2.1, ?_, ?_, ?_⟩,
    ⟨start 8 0 0 0x4760000000000000, 2 ^ 119, 2 ^ 127, _, witness_float_operands.2.2.1, ?_, rfl, ?_⟩⟩
  · show 640 = ratTrunc (5 / 2 * 2 ^ 8)
    norm_num [ratTrunc]
  · show 640 = ⌊((sint (0x100 : Word) * 640 : ℤ) : ℚ) / 2 ^ 8⌋
    rw [show sint (0x100 : Word) = 256 by decide]
    norm_num
  · unfold InRange
    decide
  · show 2 ^ 127 = ratTrunc (2 ^ 119 * 2 ^ 8)
    rw [ratTrunc, if_pos (by positivity), show (2 : ℚ) ^ 119 * 2 ^ 8 = ((2 ^ 127 : ℤ) : ℚ) by norm_num, Int.floor_intCast]
  · intro h
    exact absurd h.1 (by unfold InRange; decide)

/-- Hypotheses of the clauses of `DivRoundsAsDrSelects`: a zero divisor (V130), V123 and V124 in the two modes, and V133, which does not
fit. -/
theorem witness_DivRoundsAsDrSelects :
    (∃ s : State, sint (s.num 2) = 0) ∧
    (∃ s : State, sint (s.num 2) ≠ 0 ∧ s.cfg.dr = .towardZero ∧
      ratTrunc (((sint (s.num 1) * 2 ^ s.fracBits : ℤ) : ℚ) / (sint (s.num 2) : ℚ)) = -0x22A ∧ InRange (-0x22A)) ∧
    (∃ s : State, sint (s.num 2) ≠ 0 ∧ s.cfg.dr = .towardNegInf ∧
      ⌊((sint (s.num 1) * 2 ^ s.fracBits : ℤ) : ℚ) / (sint (s.num 2) : ℚ)⌋ = -0x22B ∧ InRange (-0x22B)) ∧
    ∃ s : State, sint (s.num 2) ≠ 0 ∧ s.cfg.dr = .towardZero ∧
      ratTrunc (((sint (s.num 1) * 2 ^ s.fracBits : ℤ) : ℚ) / (sint (s.num 2) : ℚ)) = 2 ^ 127 ∧ ¬ InRange (2 ^ 127) := by
  refine ⟨⟨start 8 0x100 0, by decide⟩, ⟨start 8 (-0x340) 0x180, by decide, rfl, ?_, by unfold InRange; decide⟩,
    ⟨{ start 8 (-0x340) 0x180 with cfg := { f := 8, rm := .biased, dr := .towardNegInf } }, ?_, rfl, ?_, by unfold InRange; decide⟩,
    ⟨start 8 0x80000000000000000000000000000000 (-0x100), by decide, rfl, ?_, by unfold InRange; decide⟩⟩
  · show ratTrunc (((sint (-0x340 : Word) * 2 ^ 8 : ℤ) : ℚ) / (sint (0x180 : Word) : ℚ)) = -0x22A
    rw [show sint (-0x340 : Word) = -0x340 by decide, show sint (0x180 : Word) = 0x180 by decide]
    norm_num [ratTrunc, Int.ceil_eq_iff]
  · show sint (0x180 : Word) ≠ 0
    decide
  · show ⌊((sint (-0x340 : Word) * 2 ^ 8 : ℤ) : ℚ) / (sint (0x180 : Word) : ℚ)⌋ = -0x22B
    rw [show sint (-0x340 : Word) = -0x340 by decide, show sint (0x180 : Word) = 0x180 by decide]
    norm_num [Int.floor_eq_iff]
  · show ratTrunc (((sint (0x80000000000000000000000000000000 : Word) * 2 ^ 8 : ℤ) : ℚ) / (sint (-0x100 : Word) : ℚ)) = 2 ^ 127
    rw [show sint (0x80000000000000000000000000000000 : Word) = -(2 ^ 127) by decide, show sint (-0x100 : Word) = -0x100 by decide]
    norm_num [ratTrunc, Int.floor_eq_iff]

/-- Hypotheses of both clauses of `ArithmeticIdentities`. -/
theorem witness_ArithmeticIdentities :
    ((3 : NumReg) ≠ 2 ∧ ∃ t, exec (.add 3 1 2) (start 8 5 7) = .next t ∧ t.status.err = .none) ∧
    (start 8 (-5) 0x100).LegalF ∧ sint ((start 8 (-5) 0x100).num 2) = 2 ^ (start 8 (-5) 0x100).fracBits :=
  ⟨⟨by decide, ((start 8 5 7).setNum 3 12).noError, rfl, rfl⟩, by decide, by decide⟩

/-- Hypotheses of the clauses of `ShlExactOrError` and `ShrIsTheArithmeticShift`: the counts 126 and 127, V143 and V150. -/
theorem witness_ShlExactOrError :
    127 ≤ (start 8 0 0 127).opa.toNat ∧ (start 8 1 0 126).opa.toNat < 127 ∧
      InRange (sint ((start 8 1 0 126).num 1) * 2 ^ 126) ∧ ¬ InRange (sint ((start 8 2 0 126).num 1) * 2 ^ 126) := by
  unfold InRange
  decide

/-- Hypotheses of the clauses of `CfgwWritesLegalValuesWhole` at their boundaries: V206, V207, then V205, V204, V208, V209. -/
theorem witness_CfgwWritesLegalValuesWhole :
    (∀ v ∈ [(0x40 : Word), 0x1, 0x340], v.toNat < 2 ^ 10 ∧ v.getLsbD 7 = false ∧ 1 ≤ v.toNat % 2 ^ 7 ∧ v.toNat % 2 ^ 7 ≤ 64) ∧
    ∀ v ∈ [(0x41 : Word), 0x0, 0x88, 0x408],
      ¬ (v.toNat < 2 ^ 10 ∧ v.getLsbD 7 = false ∧ 1 ≤ v.toNat % 2 ^ 7 ∧ v.toNat % 2 ^ 7 ≤ 64) := by simp

/-- Hypothesis of the last clause of `CsrrReadsTheRegisters`, at both ends of the reserved indices. -/
theorem witness_CsrrReadsTheRegisters : 3 ≤ (3 : CsrIndex).val ∧ 3 ≤ (7 : CsrIndex).val ∧ ¬ 3 ≤ (2 : CsrIndex).val := by decide

/-- Hypothesis of `EncBiasedIsTheRule` and `EncTruncIsTheRule`: x = 1, that is 2^1074 units. -/
theorem witness_EncBiasedIsTheRule : (1 : ℚ) = ((2 ^ 1074 : ℤ) : ℚ) / 2 ^ 1074 := by
  rw [Int.cast_pow, Int.cast_ofNat, div_self (pow_ne_zero _ two_ne_zero)]

end Sys2Proof.Tests
end

