-- ==== Sys2Proof/Proofs/DestBlind.lean ====
section
/-! The destination of a command is only where its result goes. A command whose destination is left open ends the same way
whichever register is filled in: always with one value written, or always with one error code (00_scope.md R15). The property
passes through the checks the meanings are built from, so each meaning has it by its own shape. -/

namespace Sys2Proof.Machine

/-- The command `f`, its destination left open, ends from `s` with a value or an error code that no choice of the destination
changes. The code is never NONE, so STATUS.ERR tells the two ends apart. -/
def DestBlind (f : NumReg → Outcome) (s : State) : Prop :=
  (∃ v, ∀ rd, f rd = writeNum rd v s) ∨ ∃ c, c ≠ ErrCode.none ∧ ∀ rd, f rd = raiseErr c s

namespace DestBlind

variable {s : State} {f g : NumReg → Outcome} {c : ErrCode}

theorem of_writeNum (v : Word) : DestBlind (fun rd => writeNum rd v s) s := .inl ⟨v, fun _ => rfl⟩

theorem of_raiseErr (hc : c ≠ .none) : DestBlind (fun _ => raiseErr c s) s := .inr ⟨c, hc, fun _ => rfl⟩

/-- A check that does not look at the destination keeps the property. -/
theorem of_ite {p : Prop} [Decidable p] (hf : DestBlind f s) (hg : DestBlind g s) :
    DestBlind (fun rd => if p then f rd else g rd) s := by
  by_cases hp : p
  · simpa only [if_pos hp] using hf
  · simpa only [if_neg hp] using hg

theorem of_writeNumIfFits (hc : c ≠ .none) (v : Int) : DestBlind (fun rd => writeNumIfFits c rd v s) s :=
  of_ite (of_writeNum _) (of_raiseErr hc)

/-- The binary64 commands: an operand that is not finite fails before the destination plays a part. -/
theorem of_finiteOperand {k : Int → NumReg → Outcome} (hk : ∀ x, DestBlind (k x) s) :
    DestBlind (fun rd => match f64value (opaLow64 s) with
      | .nan => raiseErr .nonFiniteOperand s
      | .infinity _ => raiseErr .nonFiniteOperand s
      | .finite x => k x rd) s := by
  cases f64value (opaLow64 s) with
  | nan => exact of_raiseErr (by decide)
  | infinity _ => exact of_raiseErr (by decide)
  | finite x => exact hk x

end DestBlind

open DestBlind in
/-- Every command with a destination is blind to it, one of its sources included (00_scope.md R15, 30_encoding.md R76). -/
theorem exec_retarget_destBlind {i : Instr} {d : NumReg} (hd : destReg i = some d) (s : State) :
    DestBlind (fun rd => exec (retarget rd i) s) s := by
  cases i with
  | nop | cmp | toi | tof | rdraw | cfgw | csrr | clrst => cases hd
  | ldzero | ldone | ldpi | lde | ldhpi | fraconly | ldraw | mov | floor => exact of_writeNum _
  | add | sub | neg | mul | muli => exact of_writeNumIfFits (by decide) _
  | fromi | shr => exact of_ite (of_raiseErr (by decide)) (of_writeNum _)
  | new | fromu => exact of_ite (of_raiseErr (by decide)) (of_ite (of_raiseErr (by decide)) (of_writeNum _))
  | addi | subi | div | shl => exact of_ite (of_raiseErr (by decide)) (of_writeNumIfFits (by decide) _)
  | fromf | addf | subf | mulf =>
    exact of_finiteOperand fun x => of_ite (of_raiseErr (by decide)) (of_writeNumIfFits (by decide) _)

/-- A command is itself with its own destination filled in. -/
theorem retarget_destReg {i : Instr} {d : NumReg} (hd : destReg i = some d) : retarget d i = i := by
  cases i <;> cases hd <;> rfl

/-- Settles O22: both runs end with the one value or the one code that `exec_retarget_destBlind` gives. -/
theorem resultDoesNotDependOnDestination : Obligations.ResultDoesNotDependOnDestination := by
  intro i d s t d' hd ht
  rw [← retarget_destReg hd] at ht
  obtain ⟨v, hv⟩ | ⟨c, hc, herr⟩ := exec_retarget_destBlind hd s
  · obtain rfl : (s.setNum d v).noError = t := Host.Outcome.next.inj ((hv d).symm.trans ht)
    exact ⟨(s.setNum d' v).noError, hv d', rfl, fun _ => by simp⟩
  · obtain rfl : s.withError c = t := Host.Outcome.next.inj ((herr d).symm.trans ht)
    exact ⟨s.withError c, herr d', rfl, fun hnone => absurd hnone hc⟩

end Sys2Proof.Machine
end

section
/-! Which command writes which register of 10_state.md: what `exec_cases` says, read once for the Num registers, once for RES and
once for CFG; and the values the registers take at reset. -/

namespace Sys2Proof.Machine

section Writers

variable {i : Instr} {s t : State}

/-- A Num register is written only by a command that names it as its destination (30_encoding.md R74). -/
theorem exec_num_of_ne_destReg (h : exec i s = .next t) {r : NumReg} (hr : destReg i ≠ some r) : t.num r = s.num r := by
  obtain ⟨c, -, rfl⟩ | ⟨rd, v, hd, rfl⟩ | ⟨-, v, rfl⟩ | ⟨a, b, c, -, rfl⟩ | ⟨-, rfl⟩ | ⟨-, -, rfl⟩ | ⟨-, rfl⟩ := exec_cases h
  case inr.inl =>
    have hne : r ≠ rd := fun hrd => hr (hrd ▸ hd)
    rw [num_noError, num_setNum_ne s rd v hne]
  all_goals rfl

/-- RES is written only by a readout, and only by one that succeeds (10_state.md R25). -/
theorem exec_res (h : exec i s = .next t) : t.res = s.res ∨ writesRes i = true ∧ t.status.err = .none := by
  obtain ⟨c, -, rfl⟩ | ⟨rd, v, -, rfl⟩ | ⟨hw, v, rfl⟩ | ⟨a, b, c, -, rfl⟩ | ⟨-, rfl⟩ | ⟨-, -, rfl⟩ | ⟨-, rfl⟩ := exec_cases h
  case inr.inr.inl => exact .inr ⟨hw, rfl⟩
  all_goals exact .inl rfl

/-- CFG is written only by CFGW, and only by one that succeeds, with F in its legal range (10_state.md R28). -/
theorem exec_cfg (h : exec i s = .next t) : t.cfg = s.cfg ∨ i = .cfgw ∧ t.status.err = .none ∧ t.LegalF := by
  obtain ⟨c, -, rfl⟩ | ⟨rd, v, -, rfl⟩ | ⟨-, v, rfl⟩ | ⟨a, b, c, -, rfl⟩ | ⟨-, rfl⟩ | ⟨hi, hv, rfl⟩ | ⟨-, rfl⟩ := exec_cases h
  case inr.inr.inr.inr.inr.inl => exact .inr ⟨hi, rfl, cfgOfValue_legal hv⟩
  all_goals exact .inl rfl

/-- A register whose bits stay has, at whatever F is now, the value those bits stand for (10_state.md R28). -/
theorem value_of_num_eq {r : NumReg} (h : t.num r = s.num r) : t.value r = (sint (s.num r) : ℚ) / 2 ^ t.fracBits := by
  rw [State.value, State.numInt, h]

end Writers

/-- Settles O9: the Num registers by `num_reset`; the rest are closed words, computed. -/
theorem resetValues : Obligations.ResetValues :=
  ⟨num_reset, rfl, by decide, by decide, by decide, by decide⟩

/-- Settles O17: a command that is no readout, or one that failed, is not the writer `exec_res` leaves. -/
theorem onlyReadoutsWriteRes : Obligations.OnlyReadoutsWriteRes := by
  refine ⟨fun i s t h => ?_, fun _ => rfl⟩
  obtain hres | ⟨hw, herr⟩ := exec_res h
  · exact ⟨fun _ => hres, fun _ => hres⟩
  · exact ⟨fun hnot => absurd (hw.symm.trans hnot) (by decide), fun hfail => absurd herr hfail⟩

/-- Settles O18: `exec_cfg` says who writes CFG and with what; CFGW names no destination, so the raw bits stay. -/
theorem onlyCfgwWritesCfg : Obligations.OnlyCfgwWritesCfg := by
  intro i s t h
  have hraw (hi : i = .cfgw) (r : NumReg) : t.num r = s.num r := exec_num_of_ne_destReg h (by simp [hi, destReg])
  have hregs (hi : i = .cfgw) (r : NumReg) := And.intro (hraw hi r) (value_of_num_eq (hraw hi r))
  obtain hcfg | ⟨hi, herr, hF⟩ := exec_cfg h
  · exact ⟨fun _ => hcfg, .inl hcfg, fun hi => ⟨fun _ => hcfg, hregs hi⟩⟩
  · exact ⟨fun hne => absurd hi hne, .inr hF, fun _ => ⟨fun hfail => absurd herr hfail, hregs hi⟩⟩

end Sys2Proof.Machine
end

section
/-! What a step does with the next sample of the input ports, one rule per stage: the sample is taken (10_state.md R35), an offered
command is accepted, and a legal word runs as the command it decodes to (30_encoding.md R80). -/

namespace Sys2Proof.Machine

/-- A sample the host drives is served in the state without it. -/
theorem step_of_pending_cons {s : State} {p : PortIn} {rest : List PortIn} (h : s.pending = p :: rest) :
    step s = servePort p { s with pending := rest } := by
  rw [step, h]

/-- The unit is ready between commands: an offered one is accepted at once. -/
@[simp] theorem servePort_offer (c : Command) (s : State) : servePort (offer c) s = runCommand c s := rfl

/-- A legal word runs as its command, in the state with the buses sampled and the index advanced (20_memory.md R53). -/
theorem runCommand_of_decode_ok {c : Command} {i : Instr} (h : decode c.word = .ok i) (s : State) :
    runCommand c s = exec i (s.accept c) := by
  rw [runCommand, h]

/-- Settles O5: the stages of the step in turn. Taking the sample writes `pending` and `accept` the buses and the index, which
together are the state the statement names. -/
theorem stepRunsTheDecodedCommand : Obligations.StepRunsTheDecodedCommand := by
  intro s c rest i hp hd
  calc
    step s = servePort (offer c) { s with pending := rest } := step_of_pending_cons hp
    _ = runCommand c { s with pending := rest } := servePort_offer c _
    _ = exec i (State.accept c { s with pending := rest }) := runCommand_of_decode_ok hd _

end Sys2Proof.Machine
end

section
/-! The fields of a command word (30_encoding.md R71) as digits of its number, and what `packWord` puts in them. -/

namespace Sys2Proof

/-! ### A word's fields are digits of its number -/

section FieldValues

variable (w : BitVec 32)

theorem opField_toNat : (opField w).toNat = w.toNat % 2 ^ 6 := rfl

theorem opField_eq_ofNat {n : Nat} (h : (opField w).toNat = n) : opField w = BitVec.ofNat 6 n := by
  rw [← h, BitVec.ofNat_toNat, BitVec.setWidth_eq]

theorem rdField_val : (rdField w).val = w.toNat / 2 ^ 6 % 2 ^ 3 := by simp [rdField, Nat.shiftRight_eq_div_pow]

theorem rs1Field_val : (rs1Field w).val = w.toNat / 2 ^ 9 % 2 ^ 3 := by simp [rs1Field, Nat.shiftRight_eq_div_pow]

theorem rs2Field_val : (rs2Field w).val = w.toNat / 2 ^ 12 % 2 ^ 3 := by simp [rs2Field, Nat.shiftRight_eq_div_pow]

theorem csrField_val : (csrField w).val = w.toNat / 2 ^ 15 % 2 ^ 3 := by simp [csrField, Nat.shiftRight_eq_div_pow]

theorem rsvField_toNat : (rsvField w).toNat = w.toNat / 2 ^ 18 := by
  have := w.isLt
  rw [rsvField, BitVec.extractLsb'_toNat, Nat.shiftRight_eq_div_pow]
  omega

end FieldValues

/-- Two words are equal exactly when they agree field by field. -/
theorem word_eq_iff_fields {v w : BitVec 32} : v = w ↔ opField v = opField w ∧ rdField v = rdField w ∧
    rs1Field v = rs1Field w ∧ rs2Field v = rs2Field w ∧ csrField v = csrField w ∧ rsvField v = rsvField w :=
  ⟨by rintro rfl; exact ⟨rfl, rfl, rfl, rfl, rfl, rfl⟩,
    fun ⟨ho, hd, h1, h2, hc, hr⟩ => word_eq_of_fields ho hd h1 h2 hc hr⟩

/-! ### The fields of a packed word -/

theorem append_toNat {m n : Nat} (x : BitVec m) (y : BitVec n) : (x ++ y).toNat = x.toNat * 2 ^ n + y.toNat := by
  rw [BitVec.toNat_append, ← Nat.shiftLeft_add_eq_or_of_lt y.isLt, Nat.shiftLeft_eq]

section Pack

variable (op : BitVec 6) (rd rs1 rs2 : NumReg) (csr : CsrIndex)

theorem packWord_toNat : (packWord op rd rs1 rs2 csr).toNat =
    op.toNat + 2 ^ 6 * rd + 2 ^ 9 * rs1 + 2 ^ 12 * rs2 + 2 ^ 15 * csr := by
  simp only [packWord, append_toNat, BitVec.toNat_ofNat]
  omega

@[simp] theorem opField_packWord : opField (packWord op rd rs1 rs2 csr) = op := by
  apply BitVec.eq_of_toNat_eq
  rw [opField_toNat, packWord_toNat]
  omega

@[simp] theorem rdField_packWord : rdField (packWord op rd rs1 rs2 csr) = rd := by
  apply Fin.ext
  rw [rdField_val, packWord_toNat]
  omega

@[simp] theorem rs1Field_packWord : rs1Field (packWord op rd rs1 rs2 csr) = rs1 := by
  apply Fin.ext
  rw [rs1Field_val, packWord_toNat]
  omega

@[simp] theorem rs2Field_packWord : rs2Field (packWord op rd rs1 rs2 csr) = rs2 := by
  apply Fin.ext
  rw [rs2Field_val, packWord_toNat]
  omega

@[simp] theorem csrField_packWord : csrField (packWord op rd rs1 rs2 csr) = csr := by
  apply Fin.ext
  rw [csrField_val, packWord_toNat]
  omega

@[simp] theorem rsvField_packWord : rsvField (packWord op rd rs1 rs2 csr) = 0 := by
  apply BitVec.eq_of_toNat_eq
  rw [rsvField_toNat, packWord_toNat]
  exact Nat.div_eq_of_lt (by omega)

end Pack

/-- The bare opcode that the mask test of 30_encoding.md R80 compares with is a word of which no other field is used. -/
theorem setWidth_eq_packWord (op : BitVec 6) : op.setWidth 32 = packWord op 0 0 0 0 := by
  apply BitVec.eq_of_toNat_eq
  rw [packWord_toNat, BitVec.toNat_setWidth_of_le (by decide)]
  rfl

end Sys2Proof
end

section
/-! The three forms of one check on a word in a format (30_encoding.md R72): the mask test of the decoder, the field-by-field test of
WellFormed.lean, and "packing the fields the format uses gives the word back", to which the other two are compared. -/

namespace Sys2Proof

/-! ### The field columns of 30_encoding.md R72 -/

/-- The format has RD. -/
def usesRd : Format → Bool
  | .d | .ds | .dss => true
  | .z | .s | .ss | .c => false

/-- The format has RS1. -/
def usesRs1 : Format → Bool
  | .ds | .dss | .s | .ss => true
  | .z | .d | .c => false

/-- The format has RS2. -/
def usesRs2 : Format → Bool
  | .dss | .ss => true
  | .z | .d | .ds | .s | .c => false

/-- The format has CSR. -/
def usesCsr : Format → Bool
  | .c => true
  | .z | .d | .ds | .dss | .s | .ss => false

/-- The word made of the opcode of `w` and of the fields of `w` that the format has, all else zero. -/
def repack (f : Format) (w : BitVec 32) : BitVec 32 :=
  packWord (opField w) (if usesRd f then rdField w else 0) (if usesRs1 f then rs1Field w else 0)
    (if usesRs2 f then rs2Field w else 0) (if usesCsr f then csrField w else 0)

/-! ### The mask test -/

section Masked

variable (f : Format) (w : BitVec 32)

/-- A mask that is all ones or all zeros on three bits keeps them or clears them. -/
theorem toFin_and_mask {m : BitVec 32} {k : Nat} {used : Bool} (hm : m.extractLsb' k 3 = if used then 0 else 7) :
    ((w &&& m).extractLsb' k 3).toFin = if used then 0 else (w.extractLsb' k 3).toFin := by
  rw [BitVec.extractLsb'_and, hm]
  generalize w.extractLsb' k 3 = x
  clear hm
  revert x used
  decide

@[simp] theorem opField_masked : opField (w &&& formatMask f) = opField w := by
  have hm : opField (formatMask f) = BitVec.allOnes 6 := by cases f <;> rfl
  rw [opField, BitVec.extractLsb'_and, ← opField, ← opField, hm, BitVec.and_allOnes]

@[simp] theorem rdField_masked : rdField (w &&& formatMask f) = if usesRd f then 0 else rdField w :=
  toFin_and_mask w (by cases f <;> rfl)

@[simp] theorem rs1Field_masked : rs1Field (w &&& formatMask f) = if usesRs1 f then 0 else rs1Field w :=
  toFin_and_mask w (by cases f <;> rfl)

@[simp] theorem rs2Field_masked : rs2Field (w &&& formatMask f) = if usesRs2 f then 0 else rs2Field w :=
  toFin_and_mask w (by cases f <;> rfl)

@[simp] theorem csrField_masked : csrField (w &&& formatMask f) = if usesCsr f then 0 else csrField w :=
  toFin_and_mask w (by cases f <;> rfl)

@[simp] theorem rsvField_masked : rsvField (w &&& formatMask f) = rsvField w := by
  have hm : rsvField (formatMask f) = BitVec.allOnes 14 := by cases f <;> rfl
  rw [rsvField, BitVec.extractLsb'_and, ← rsvField, ← rsvField, hm, BitVec.and_allOnes]

end Masked

/-- The last test of 30_encoding.md R80 passes exactly the words that hold nothing but their opcode and their format's fields: it
asks of every other field to be zero. -/
theorem maskTest_iff_repack {f : Format} {w : BitVec 32} :
    w &&& formatMask f = (opField w).setWidth 32 ↔ w = repack f w := by
  rw [setWidth_eq_packWord, word_eq_iff_fields, word_eq_iff_fields (w := repack f w)]
  simp [repack]

theorem inFormat_of_eq_repack {f : Format} {w : BitVec 32} (h : w = repack f w) (i : Instr) : inFormat f w i = .ok i :=
  if_pos (maskTest_iff_repack.2 h)

/-- No format uses RSV (30_encoding.md R73). -/
theorem rsvField_of_eq_repack {f : Format} {w : BitVec 32} (h : w = repack f w) : rsvField w = 0 := by
  rw [h, repack, rsvField_packWord]

/-! ### The field-by-field test -/

/-- The column "must be zero" of 30_encoding.md R72 allows the same words: a run of zero bits in the word's number is a run of zero
fields. -/
theorem unusedZeroIn_iff_repack {f : Format} {w : BitVec 32} : unusedZeroIn f w = true ↔ w = repack f w := by
  have hw := w.isLt
  rw [BitVec.toNat_eq, repack, packWord_toNat]
  cases f <;>
    simp [unusedZeroIn, usesRd, usesRs1, usesRs2, usesCsr, BitVec.toNat_eq, opField_toNat, rdField_val, rs1Field_val, rs2Field_val,
      csrField_val, Nat.shiftRight_eq_div_pow] <;>
    omega

end Sys2Proof
end

section
/-! The decoder, the encoder and the legality of a word compared (30_encoding.md R72–R75, R80). The branches of the decoder are read
once each way: from a word in `decode_cases`, from a command in `decode_encode`. -/

namespace Sys2Proof

variable {w : BitVec 32}

/-- A word with RSV zero has a reserved opcode, or is tested in its opcode's format and stands for a command that encodes as the
fields of that format say. -/
theorem decode_cases (hr : rsvField w = 0) :
    (opcodeFormat (opField w).toNat = none ∧ decode w = .error .reservedOpcode) ∨
      ∃ f i, opcodeFormat (opField w).toNat = some f ∧ encode i = repack f w ∧ decode w = inFormat f w i := by
  rw [decode, if_neg (not_not_intro hr)]
  split
  case h_35 =>
    have hlt := (opField w).isLt
    refine .inl ⟨?_, rfl⟩
    -- `split` leaves "not this opcode" as `_ = n → False`, which `omega` reads only as a negation
    simp only [imp_false] at *
    simp only [opcodeFormat, ite_eq_iff, reduceCtorEq, and_false, and_true, false_or]
    omega
  all_goals
    next hn =>
    exact .inr ⟨_, _, by rw [hn]; rfl, by rw [repack, opField_eq_ofNat w hn]; rfl, rfl⟩

/-- All that the decoder can accept: a word that is its own repacking in the format of its opcode, as the command it encodes. -/
theorem decode_eq_ok {i : Instr} (h : decode w = .ok i) :
    encode i = w ∧ ∃ f, opcodeFormat (opField w).toNat = some f ∧ w = repack f w := by
  have hr : rsvField w = 0 := by
    by_contra hr
    rw [decode, if_pos hr] at h
    cases h
  obtain ⟨-, hbad⟩ | ⟨f, j, hf, hj, hd⟩ := decode_cases hr
  · cases hbad.symm.trans h
  · obtain ⟨rfl, hmask⟩ := inFormat_eq_ok (hd.symm.trans h)
    have hw := maskTest_iff_repack.1 hmask
    exact ⟨hj.trans hw.symm, f, hf, hw⟩

/-- A word that is its own repacking in the format of its opcode is accepted. -/
theorem exists_decode_of_eq_repack {f : Format} (hf : opcodeFormat (opField w).toNat = some f) (hw : w = repack f w) :
    ∃ i, decode w = .ok i := by
  obtain ⟨hnone, -⟩ | ⟨g, i, hg, -, hd⟩ := decode_cases (rsvField_of_eq_repack hw)
  · cases hnone.symm.trans hf
  · obtain rfl : g = f := Option.some.inj (hg.symm.trans hf)
    exact ⟨i, hd.trans (inFormat_of_eq_repack hw i)⟩

/-- The checks of WellFormed.lean, with the opcode's format named. Check 1 adds nothing: no format uses RSV. -/
theorem wordWellFormed_iff : wordWellFormed w = true ↔ ∃ f, opcodeFormat (opField w).toNat = some f ∧ w = repack f w := by
  have hop : w.extractLsb 5 0 = opField w := rfl
  have hrsv : w.extractLsb 31 18 = rsvField w := rfl
  rw [wordWellFormed, reservedBitsZero, opcodeAssigned, unusedFieldsZero, hop, hrsv]
  cases opcodeFormat (opField w).toNat with
  | none => simp
  | some f => simpa [unusedZeroIn_iff_repack] using rsvField_of_eq_repack

/-- Each command's word has RSV zero and its own opcode, which leads the decoder to the command's arm; there the fields read back
are those packed, and the fields packed are those of the arm's format, so the mask test passes. -/
theorem decode_encode (i : Instr) : decode (encode i) = .ok i := by
  cases i <;> simp [encode, decode, inFormat_of_eq_repack, repack, usesRd, usesRs1, usesRs2, usesCsr]

/-- Settles O1, by the case split over the commands in `decode_encode`. -/
theorem decodeOfEncode : Obligations.DecodeOfEncode := decode_encode

/-- Settles O2: the word is the repacking of its own fields, and that is what the command encodes as (`decode_eq_ok`). -/
theorem encodeOfDecode : Obligations.EncodeOfDecode := fun _ _ h => (decode_eq_ok h).1

/-- Settles O3: both sides say that the word is its own repacking in the format of its opcode. -/
theorem decodeAcceptsExactlyLegalWords : Obligations.DecodeAcceptsExactlyLegalWords := by
  intro w
  rw [wordWellFormed_iff]
  constructor
  · rintro ⟨i, h⟩
    exact (decode_eq_ok h).2
  · rintro ⟨f, hf, hw⟩
    exact exists_decode_of_eq_repack hf hw

/-- Settles O4: each word written out is, bit for bit, the encoding of the command it stands for. -/
theorem writtenOutWordsDecode : Obligations.WrittenOutWordsDecode :=
  ⟨decode_encode .clrst, decode_encode (.new 5), decode_encode (.mov 2 1), decode_encode (.add 3 1 2), decode_encode (.shl 7 6),
    decode_encode (.tof 5), decode_encode (.cmp 1 2), decode_encode (.csrr 2)⟩

namespace Machine

/-- An illegal word raises ILLEGAL_OPERATION and nothing else (30_encoding.md R75). -/
theorem runCommand_of_illegal {c : Command} (h : wordWellFormed c.word = false) (s : State) :
    runCommand c s = raiseErr .illegalOperation (s.accept c) := by
  unfold runCommand
  split
  next i hd =>
    have hlegal := (decodeAcceptsExactlyLegalWords c.word).1 ⟨i, hd⟩
    exact absurd (hlegal.symm.trans h) (by decide)
  next => rfl

/-- Settles O6: taking the sample and accepting the command touch none of the fields named, and `raiseErr_next` says what the
error does. -/
theorem illegalWordChangesOnlyStatus : Obligations.IllegalWordChangesOnlyStatus := by
  intro s c rest hp hw
  have hstep : step s = raiseErr .illegalOperation (State.accept c { s with pending := rest }) := by
    rw [step_of_pending_cons hp, servePort_offer, runCommand_of_illegal hw]
  obtain ⟨t, ht, hnum, hres, hcfg, herr, hsticky, hcmp, hslack, -⟩ :=
    raiseErr_next (State.accept c { s with pending := rest }) .illegalOperation
  exact ⟨t, hstep.trans ht, hnum, hres, hcfg, hslack, herr, hsticky, hcmp⟩

end Machine

end Sys2Proof
end

section
/-! How a construction command ends (40_construct.md): a check fails with its code, or the value passes every check and the register
holds exactly that number. Then the commands whose value is an integer formula of their operands. -/

namespace Sys2Proof.Machine

/-! ### The two ends of a checked construction -/

section Ends

variable (s : State)

/-- A check that holds ends the command with its code, whatever would have come after. -/
theorem ite_raiseErr_next {p : Prop} [Decidable p] (hp : p) (c : ErrCode) (o : Outcome) :
    ∃ t, (if p then raiseErr c s else o) = .next t ∧ FailedWith c s t := by
  rw [if_pos hp]
  exact raiseErr_next s c

/-- A pattern written for a number in range reads back as that number. -/
theorem writeNum_bits128_next (rd : NumReg) {v : ℤ} (hv : InRange v) :
    ∃ t, writeNum rd (bits128 v) s = .next t ∧ sint (t.num rd) = v ∧ NumFrame rd s t := by
  obtain ⟨t, ht, hnum, hframe⟩ := writeNum_next s rd (bits128 v)
  exact ⟨t, ht, by rw [hnum, sint_bits128 hv], hframe⟩

end Ends

/-! ### Ranges -/

/-- A natural number below 2^127 is in the signed range. -/
theorem natCast_inRange {n : ℕ} (h : n < 2 ^ 127) : InRange n := by
  unfold InRange
  omega

/-- An integer within the construction bound, scaled by 2^F, fits (40_construct.md R100). -/
theorem mul_pow_inRange {s : State} (hF : s.LegalF) {i : ℤ}
    (hi : |i| ≤ 2 ^ (127 - s.fracBits) - (slackNat s.imaxSlack : ℤ)) : InRange (i * 2 ^ s.fracBits) := by
  simpa using scaled_inRange hF hi le_rfl (by positivity)

/-- The construction bound is below 2^127: it is at most 2^(127−F) − 1 (00_scope.md R8). -/
theorem imax_lt (k : ImaxSlack) (f : ℕ) : (2 : ℤ) ^ (127 - f) - (slackNat k : ℤ) < 2 ^ 127 := by
  have hslack := one_le_slackNat k
  have hpow : (2 : ℤ) ^ (127 - f) ≤ 2 ^ 127 := pow_le_pow_right₀ one_le_two (Nat.sub_le _ _)
  omega

/-! ### Copies, zero and one -/

/-- Settles O30: both commands end in `writeNum` with the bits named. -/
theorem ldrawMovCopyBits : Obligations.LdrawMovCopyBits :=
  ⟨fun rd s => writeNum_next s rd s.opa, fun rd rs1 s => writeNum_next s rd (s.num rs1)⟩

/-- Settles O23: 2^F is at most 2^64, so it fits as it stands. -/
theorem ldzeroLdoneResults : Obligations.LdzeroLdoneResults := by
  refine ⟨fun rd s => writeNum_bits128_next s rd (natCast_inRange (n := 0) (by norm_num)), fun rd s hF => ?_⟩
  have hone : InRange ((2 ^ s.fracBits : ℕ) : ℤ) :=
    natCast_inRange ((Nat.pow_le_pow_right two_pos hF.2).trans_lt (by norm_num))
  exact writeNum_bits128_next s rd (by exact_mod_cast hone)

/-! ### Integers and fractions -/

/-- Settles O25: the two checks of NEW in turn; past both, `scaled_inRange` is the bound's purpose. -/
theorem newResultOrOverflow : Obligations.NewResultOrOverflow := by
  intro rd s hF
  constructor
  · rintro ⟨hint, hfrac⟩
    obtain ⟨t, ht, hval⟩ := writeNum_bits128_next s rd
      (scaled_inRange hF hint (Int.natCast_nonneg s.opb.toNat) (by exact_mod_cast hfrac))
    have hint' : ¬ ctorOk s (opaInt s) = false := ctorOk_false_iff.not.2 (not_lt.2 hint)
    have hfrac' : ¬ 2 ^ s.fracBits ≤ opbUint s := not_le.2 hfrac
    exact ⟨t, by rw [← ht, exec, execNew, if_neg hint', if_neg hfrac']; rfl, hval⟩
  · intro hbad
    by_cases hint : ctorOk s (opaInt s) = false
    · exact ite_raiseErr_next s hint _ _
    · have hfrac : 2 ^ s.fracBits ≤ opbUint s :=
        not_lt.1 fun hlt => hbad ⟨not_lt.1 (ctorOk_false_iff.not.1 hint), hlt⟩
      rw [exec, execNew, if_neg hint]
      exact ite_raiseErr_next s hfrac _ _

/-- Settles O26: one check, which is the construction bound. -/
theorem fromiResultOrOverflow : Obligations.FromiResultOrOverflow := by
  intro rd s hF
  refine ⟨fun hint => ?_, fun hbad => ite_raiseErr_next s (ctorOk_false_iff.2 (not_le.1 hbad)) _ _⟩
  obtain ⟨t, ht, hval⟩ := writeNum_bits128_next s rd (mul_pow_inRange hF hint)
  have hint' : ¬ ctorOk s (opaInt s) = false := ctorOk_false_iff.not.2 (not_lt.2 hint)
  exact ⟨t, by rw [← ht, exec, execFromi, if_neg hint']; rfl, hval⟩

/-- Settles O27: the two checks of FROMU in turn. A value within the construction bound is below 2^127 by `imax_lt`, so it passes the
first check too. -/
theorem fromuResultOrError : Obligations.FromuResultOrError := by
  intro rd s hF
  refine ⟨fun hbig => ite_raiseErr_next s hbig _ _, fun hfits hover => ?_, fun hint => ?_⟩
  · have hover' : ctorOk s (opaUint s) = false := ctorOk_false_iff.2 (hover.trans_le (le_abs_self _))
    rw [exec, execFromu, if_neg (not_le.2 hfits : ¬ 2 ^ 127 ≤ opaUint s)]
    exact ite_raiseErr_next s hover' _ _
  · have habs : |(s.opa.toNat : ℤ)| ≤ 2 ^ (127 - s.fracBits) - (slackNat s.imaxSlack : ℤ) := by rwa [Nat.abs_cast]
    have hfits : s.opa.toNat < 2 ^ 127 := by exact_mod_cast hint.trans_lt (imax_lt s.imaxSlack s.fracBits)
    have hint' : ¬ ctorOk s (opaUint s) = false := ctorOk_false_iff.not.2 (not_lt.2 habs)
    obtain ⟨t, ht, hval⟩ := writeNum_bits128_next s rd (mul_pow_inRange hF habs)
    exact ⟨t, by rw [← ht, exec, execFromu, if_neg (not_le.2 hfits : ¬ 2 ^ 127 ≤ opaUint s), if_neg hint']; rfl, hval⟩

/-- Dropping the lowest `w − f` bits of a fraction of `w` bits is scaling it to `f` bits and flooring. -/
theorem shiftRight_eq_mul_div (v : ℕ) {f w : ℕ} (hf : f ≤ w) : v >>> (w - f) = v * 2 ^ f / 2 ^ w := by
  rw [Nat.shiftRight_eq_div_pow, ← Nat.mul_div_mul_right v (2 ^ (w - f)) (Nat.two_pow_pos f), ← pow_add, Nat.sub_add_cancel hf]

/-- Settles O29: FRACONLY's shift is the scaling of the rule, and its result is below 2^64. -/
theorem fraconlyTruncatesTheFraction : Obligations.FraconlyTruncatesTheFraction := by
  intro rd s hF
  have hlow : (opaLow64 s).toNat = s.opa.toNat % 2 ^ 64 := BitVec.extractLsb'_toNat 0 64 s.opa
  have hlt : (opaLow64 s).toNat >>> (64 - s.fracBits) < 2 ^ 127 :=
    (Nat.shiftRight_le _ _).trans_lt ((opaLow64 s).isLt.trans (by norm_num))
  rw [← hlow, ← shiftRight_eq_mul_div _ hF.2]
  exact writeNum_bits128_next s rd (natCast_inRange hlt)

end Sys2Proof.Machine
end

section
/-! The named constants (40_construct.md R103): the tables hold pi and e truncated to 64 fractional bits, and dropping low bits of a
truncated constant gives the constant truncated at the smaller F. -/

namespace Sys2Proof.Machine

/-! ### The tables against the real numbers -/

/-- R103: PI64 is pi to 64 fractional bits, from Mathlib's bounds on pi to 20 decimal places. -/
theorem floor_pi_eq_pi64 : ⌊Real.pi * 2 ^ 64⌋ = (pi64 : ℤ) := by
  have hlo := Real.pi_gt_d20
  have hhi := Real.pi_lt_d20
  rw [Int.floor_eq_iff, pi64]
  push_cast
  constructor <;> linarith

/-- R103: E64 is e to 64 fractional bits, from Mathlib's rational within 10^−20 of e. -/
theorem floor_exp_one_eq_e64 : ⌊Real.exp 1 * 2 ^ 64⌋ = (e64 : ℤ) := by
  obtain ⟨hlo, hhi⟩ := abs_le.1 Real.exp_one_near_20
  rw [Int.floor_eq_iff, e64]
  push_cast
  constructor <;> linarith

/-- Half-pi shares the table of pi, read with one more fractional bit (40_construct.md R106). -/
theorem floor_half_pi_eq_pi64 : ⌊Real.pi / 2 * 2 ^ 65⌋ = (pi64 : ℤ) := by
  rw [← floor_pi_eq_pi64, show Real.pi / 2 * 2 ^ 65 = Real.pi * 2 ^ 64 by ring]

/-! ### Truncating a table -/

/-- A constant truncated to `w` fractional bits, shifted right by `w − f`, is the constant truncated to `f` bits. -/
theorem floor_mul_pow_eq_shiftRight {c : ℝ} {T w f : ℕ} (hT : ⌊c * 2 ^ w⌋ = (T : ℤ)) (hf : f ≤ w) :
    ⌊c * 2 ^ f⌋ = ((T >>> (w - f) : ℕ) : ℤ) := by
  have hscale : c * 2 ^ f = c * 2 ^ w / ((2 ^ (w - f) : ℕ) : ℝ) := by
    rw [eq_div_iff (by positivity)]
    push_cast
    rw [mul_assoc, ← pow_add, Nat.add_sub_cancel' hf]
  rw [hscale, Int.floor_div_natCast, hT, Nat.shiftRight_eq_div_pow, Int.natCast_div]

/-- The end of LDPI, LDE and LDHPI: a shifted table written is the real constant truncated at F. -/
theorem writeNum_table_next {s : State} (rd : NumReg) {c : ℝ} {T w : ℕ} (hT : ⌊c * 2 ^ w⌋ = (T : ℤ)) (hlt : T < 2 ^ 127)
    (hF : s.fracBits ≤ w) :
    ∃ t, writeNum rd (bits128 ((T >>> (w - s.fracBits) : ℕ) : ℤ)) s = .next t ∧ sint (t.num rd) = ⌊c * 2 ^ s.fracBits⌋ ∧
      NumFrame rd s t := by
  rw [floor_mul_pow_eq_shiftRight hT hF]
  exact writeNum_bits128_next s rd (natCast_inRange ((Nat.shiftRight_le _ _).trans_lt hlt))

/-- Settles O24: each command writes its table shifted, and each table is the truncated real constant. -/
theorem constantsAreTheTruncatedReals : Obligations.ConstantsAreTheTruncatedReals := by
  intro rd s hF
  have hpi : pi64 < 2 ^ 127 := by norm_num [pi64]
  have he : e64 < 2 ^ 127 := by norm_num [e64]
  exact ⟨writeNum_table_next rd floor_pi_eq_pi64 hpi hF.2, writeNum_table_next rd floor_exp_one_eq_e64 he hF.2,
    writeNum_table_next rd floor_half_pi_eq_pi64 hpi (hF.2.trans (by norm_num))⟩

end Sys2Proof.Machine
end

section
/-! The two float encodings in rationals (40_construct.md R110, R111): the integer formulas of the model on `n` units are the rules'
splits of x = n / 2^1074, and each split is one rounding of x × 2^F. -/

namespace Sys2Proof.Machine

theorem f64Scale_pos : (0 : ℚ) < f64Scale := by
  rw [f64Scale_eq]
  positivity

/-! ### The split of the rules -/

section Split

variable {n : ℤ} {x : ℚ} (hx : x = (n : ℚ) / 2 ^ 1074)
include hx

theorem eq_units_div_f64Scale : x = (n : ℚ) / f64Scale := by
  rw [hx, f64Scale_eq, Nat.cast_pow, Nat.cast_ofNat]

theorem units_nonneg_iff : 0 ≤ n ↔ 0 ≤ x := by
  rw [hx, le_div_iff₀ (by positivity), zero_mul, Int.cast_nonneg_iff]

/-- ip = trunc(x): division of the units toward zero. -/
theorem truncUnits_eq_ratTrunc : truncUnits n = ratTrunc x := by
  unfold truncUnits tdiv ratTrunc
  split_ifs with h
  · rw [eq_units_div_f64Scale hx, Rat.floor_intCast_div_natCast, Int.tdiv_eq_ediv_of_nonneg ((units_nonneg_iff hx).2 h)]
  · have hneg : 0 ≤ -n := by have := (units_nonneg_iff hx).not.2 h; omega
    rw [eq_units_div_f64Scale hx, Rat.ceil_intCast_div_natCast, ← Int.tdiv_eq_ediv_of_nonneg hneg, Int.neg_tdiv, neg_neg]

/-- |rem| = |x − ip|, in units. -/
theorem natAbs_remUnits : ((remUnits n).natAbs : ℚ) = |x - ratTrunc x| * f64Scale := by
  have hrem : (remUnits n : ℚ) = (x - ratTrunc x) * f64Scale := by
    rw [remUnits, truncUnits_eq_ratTrunc hx, Int.cast_sub, Int.cast_mul, Int.cast_natCast, sub_mul, eq_units_div_f64Scale hx,
      div_mul_cancel₀ _ f64Scale_pos.ne']
  rw [Nat.cast_natAbs, Int.cast_abs, hrem, abs_mul, abs_of_pos f64Scale_pos]

/-- The biased fraction of R110. -/
theorem fracBiased_eq_floor (f : ℕ) : (fracBiased n f : ℤ) = ⌊(|x - ratTrunc x| + 1 / 2 ^ (f + 1)) * 2 ^ f⌋ := by
  have hscale : (f64Scale : ℚ) ≠ 0 := f64Scale_pos.ne'
  rw [fracBiased, Int.natCast_div, ← Rat.floor_natCast_div_natCast]
  congr 1
  push_cast
  rw [natAbs_remUnits hx]
  field_simp
  ring

/-- The truncated fraction of R111. -/
theorem fracTrunc_eq_floor (f : ℕ) : (fracTrunc n f : ℤ) = ⌊|x - ratTrunc x| * 2 ^ f⌋ := by
  have hscale : (f64Scale : ℚ) ≠ 0 := f64Scale_pos.ne'
  rw [fracTrunc, Int.natCast_div, ← Rat.floor_natCast_div_natCast]
  congr 1
  push_cast
  rw [natAbs_remUnits hx]
  field_simp

/-- The last line of both rules. -/
theorem signedSplit_eq (f fu : ℕ) :
    signedSplit n f fu = ratTrunc x * 2 ^ f + (if 0 ≤ x then (fu : ℤ) else -(fu : ℤ)) := by
  simp only [signedSplit, truncUnits_eq_ratTrunc hx, units_nonneg_iff hx]

end Split

/-- Settles O52: the split is `signedSplit_eq`, its fraction `fracBiased_eq_floor`. -/
theorem encBiasedIsTheRule : Obligations.EncBiasedIsTheRule := by
  intro n f x hx
  rw [encBiased, signedSplit_eq hx, fracBiased_eq_floor hx]

/-- Settles O53: the split is `signedSplit_eq`, its fraction `fracTrunc_eq_floor`. -/
theorem encTruncIsTheRule : Obligations.EncTruncIsTheRule := by
  intro n f x hx
  rw [encTrunc, signedSplit_eq hx, fracTrunc_eq_floor hx]

/-! ### Each split is one rounding -/

theorem ratTrunc_nonneg {x : ℚ} (h : 0 ≤ x) : 0 ≤ ratTrunc x := by
  rw [ratTrunc, if_pos h]
  exact Int.floor_nonneg.2 h

theorem ratTrunc_nonpos {x : ℚ} (h : ¬ 0 ≤ x) : ratTrunc x ≤ 0 := by
  rw [ratTrunc, if_neg h]
  exact Int.ceil_le.2 (by exact_mod_cast (not_le.1 h).le)

/-- `ip` is on the same side of zero as x and no further from it. -/
theorem abs_eq_abs_ratTrunc_add (x : ℚ) : |x| = |(ratTrunc x : ℚ)| + |x - ratTrunc x| := by
  by_cases h : 0 ≤ x
  · have hfloor : (ratTrunc x : ℚ) ≤ x := by rw [ratTrunc, if_pos h]; exact Int.floor_le x
    rw [abs_of_nonneg h, abs_of_nonneg (by exact_mod_cast ratTrunc_nonneg h), abs_of_nonneg (sub_nonneg.2 hfloor)]
    ring
  · have hceil : x ≤ ratTrunc x := by rw [ratTrunc, if_neg h]; exact Int.le_ceil x
    rw [abs_of_neg (not_le.1 h), abs_of_nonpos (by exact_mod_cast ratTrunc_nonpos h), abs_of_nonpos (sub_nonpos.2 hceil)]
    ring

/-- Rounding the scaled remainder, with any offset `d`, and adding it to the scaled integer part rounds the whole scaled number. -/
theorem ratTrunc_mul_add_floor (x d : ℚ) (f : ℕ) :
    ratTrunc x * 2 ^ f + (if 0 ≤ x then ⌊|x - ratTrunc x| * 2 ^ f + d⌋ else -⌊|x - ratTrunc x| * 2 ^ f + d⌋) =
      if 0 ≤ x then ⌊|x * 2 ^ f| + d⌋ else -⌊|x * 2 ^ f| + d⌋ := by
  have hpow : |(2 : ℚ) ^ f| = 2 ^ f := abs_of_pos (by positivity)
  have hwhole : ⌊|x * 2 ^ f| + d⌋ = |ratTrunc x| * 2 ^ f + ⌊|x - ratTrunc x| * 2 ^ f + d⌋ := by
    rw [← Int.floor_intCast_add, abs_mul, hpow, abs_eq_abs_ratTrunc_add x]
    push_cast
    congr 1
    ring
  rw [hwhole]
  split_ifs with h
  · rw [abs_of_nonneg (ratTrunc_nonneg h)]
  · rw [abs_of_nonpos (ratTrunc_nonpos h)]
    ring

/-- Truncation is flooring the magnitude. -/
theorem ratTrunc_eq_floor_abs (q : ℚ) : ratTrunc q = if 0 ≤ q then ⌊|q|⌋ else -⌊|q|⌋ := by
  unfold ratTrunc
  split_ifs with h
  · rw [abs_of_nonneg h]
  · rw [abs_of_neg (not_le.1 h), Int.floor_neg, neg_neg]

/-- Scaling by 2^F does not move a number across zero. -/
theorem mul_pow_nonneg_iff (x : ℚ) (f : ℕ) : 0 ≤ x * 2 ^ f ↔ 0 ≤ x := mul_nonneg_iff_of_pos_right (by positivity)

/-- R110: the biased encoding is x × 2^F rounded to nearest, ties away from zero. -/
theorem encBiased_eq_ratRoundAway {n : ℤ} {x : ℚ} (hx : x = (n : ℚ) / 2 ^ 1074) (f : ℕ) :
    encBiased n f = ratRoundAway (x * 2 ^ f) := by
  have hbias : (|x - ratTrunc x| + 1 / 2 ^ (f + 1)) * 2 ^ f = |x - ratTrunc x| * 2 ^ f + 1 / 2 := by
    rw [add_mul, pow_succ]
    field_simp
  rw [encBiasedIsTheRule n f x hx, hbias, ratTrunc_mul_add_floor]
  simp only [ratRoundAway, mul_pow_nonneg_iff]

/-- R111: the truncated encoding is x × 2^F rounded toward zero. -/
theorem encTrunc_eq_ratTrunc {n : ℤ} {x : ℚ} (hx : x = (n : ℚ) / 2 ^ 1074) (f : ℕ) :
    encTrunc n f = ratTrunc (x * 2 ^ f) := by
  have hsplit := ratTrunc_mul_add_floor x 0 f
  simp only [add_zero] at hsplit
  rw [encTruncIsTheRule n f x hx, hsplit, ratTrunc_eq_floor_abs]
  simp only [mul_pow_nonneg_iff]

end Sys2Proof.Machine
end

section
/-! FROMF (40_construct.md R112). The model's units of a pattern are the rational of 44_compare_convert.md R198; a binary64 number is
small or an integer, so one within the construction bound rounds to a number that fits in either mode. -/

namespace Sys2Proof.Machine

/-! ### The pattern as a rational -/

/-- The rational a pattern's reading stands for, `none` where it is not finite. -/
def F64.toRat : F64 → Option ℚ
  | .nan => none
  | .infinity _ => none
  | .finite units => some ((units : ℚ) / 2 ^ 1074)

/-- A sign and a magnitude in units of 2^−1074, as R198 writes them. -/
theorem signed_units_div (negative : Bool) (mag : ℕ) :
    ((if negative then -(mag : ℤ) else (mag : ℤ) : ℤ) : ℚ) / 2 ^ 1074 =
      (if negative then -1 else 1) * (mag : ℚ) * (2 : ℚ) ^ (-1074 : ℤ) := by
  have hunit : (2 : ℚ) ^ (-1074 : ℤ) = ((2 : ℚ) ^ 1074)⁻¹ := zpow_neg 2 1074
  rw [hunit, div_eq_mul_inv]
  cases negative <;> simp

/-- A normal number's magnitude: the model's shift by e − 1 units is the rule's power 2^(e−1075). -/
theorem shiftLeft_mul_unit (m : ℕ) {e : ℕ} (he : e ≠ 0) :
    ((m <<< (e - 1) : ℕ) : ℚ) * (2 : ℚ) ^ (-1074 : ℤ) = (m : ℚ) * (2 : ℚ) ^ ((e : ℤ) - 1075) := by
  have hexp : (e : ℤ) - 1075 = ((e - 1 : ℕ) : ℤ) + -1074 := by omega
  rw [hexp, zpow_add₀ two_ne_zero, zpow_natCast, Nat.shiftLeft_eq, Nat.cast_mul, Nat.cast_pow, Nat.cast_ofNat, mul_assoc]

/-- 44_compare_convert.md R198: the model's reading of a pattern is the rule's rational. -/
theorem f64Rational_eq_toRat (p : BitVec 64) : f64Rational p = (f64value p).toRat := by
  unfold f64Rational f64value
  generalize (p.extractLsb' 52 11).toNat = e
  generalize (p.extractLsb' 0 52).toNat = m
  by_cases hexp : e = 0x7FF
  · by_cases hm : m = 0 <;> simp [hexp, hm, F64.toRat]
  · by_cases he : e = 0
    · simp only [if_neg hexp, if_pos he, F64.toRat, signed_units_div]
    · simp only [if_neg hexp, if_neg he, F64.toRat, signed_units_div]
      rw [mul_assoc _ (((2 ^ 52 + m) <<< (e - 1) : ℕ) : ℚ), shiftLeft_mul_unit _ he, ← mul_assoc]
      push_cast
      rfl

/-! ### Every finite binary64 number is small or an integer -/

/-- R198's formula: a sign, a significand of 53 bits and a power of two. -/
theorem f64Rational_eq_some {p : BitVec 64} {x : ℚ} (hx : f64Rational p = some x) :
    ∃ (sign : ℤ) (m : ℕ) (k : ℤ), |sign| = 1 ∧ m < 2 ^ 53 ∧ x = sign * m * (2 : ℚ) ^ k := by
  have hm : (p.extractLsb' 0 52).toNat < 2 ^ 52 := (p.extractLsb' 0 52).isLt
  obtain ⟨sign, hsign, hcast⟩ : ∃ sign : ℤ, |sign| = 1 ∧ (if p.getLsbD 63 then -1 else 1 : ℚ) = sign := by
    cases p.getLsbD 63
    · exact ⟨1, rfl, by norm_num⟩
    · exact ⟨-1, rfl, by norm_num⟩
  simp only [f64Rational, hcast] at hx
  split_ifs at hx <;> cases hx
  · exact ⟨sign, _, _, hsign, hm.trans (by norm_num), rfl⟩
  · exact ⟨sign, 2 ^ 52 + (p.extractLsb' 0 52).toNat, _, hsign, by omega, by push_cast; rfl⟩

/-- With an exponent that leaves fraction bits a binary64 number is below 2^53, and with a larger one it is an integer. -/
theorem f64Rational_small_or_int {p : BitVec 64} {x : ℚ} (hx : f64Rational p = some x) : |x| < 2 ^ 53 ∨ ∃ i : ℤ, x = i := by
  obtain ⟨sign, m, k, hsign, hm, rfl⟩ := f64Rational_eq_some hx
  rcases le_total k 0 with hk | hk
  · left
    have hsign' : |(sign : ℚ)| = 1 := by exact_mod_cast hsign
    have hpow : (2 : ℚ) ^ k ≤ 1 := zpow_le_one_of_nonpos₀ one_le_two hk
    calc |sign * m * (2 : ℚ) ^ k| = m * (2 : ℚ) ^ k := by
          rw [abs_mul, abs_mul, hsign', one_mul, Nat.abs_cast, abs_of_pos (zpow_pos two_pos k)]
      _ ≤ m := mul_le_of_le_one_right m.cast_nonneg hpow
      _ < 2 ^ 53 := by exact_mod_cast hm
  · right
    obtain ⟨j, rfl⟩ := Int.eq_ofNat_of_zero_le hk
    exact ⟨sign * m * 2 ^ j, by push_cast; rfl⟩

/-! ### No rounding leaves the range -/

/-- A number within an integer bound rounds, away from zero, within that bound. -/
theorem abs_ratRoundAway_le {y : ℚ} {B : ℤ} (h : |y| ≤ B) : |ratRoundAway y| ≤ B := by
  have hfloor : ⌊|y| + 1 / 2⌋ ≤ B := Int.floor_le_iff.2 (by linarith)
  have hnonneg : 0 ≤ ⌊|y| + 1 / 2⌋ := Int.floor_nonneg.2 (by positivity)
  unfold ratRoundAway
  split_ifs
  · rwa [abs_of_nonneg hnonneg]
  · rwa [abs_neg, abs_of_nonneg hnonneg]

/-- A number within an integer bound truncates within that bound. -/
theorem abs_ratTrunc_le {y : ℚ} {B : ℤ} (h : |y| ≤ B) : |ratTrunc y| ≤ B := by
  have htrunc : |(ratTrunc y : ℚ)| ≤ |y| := by
    rw [abs_eq_abs_ratTrunc_add y]
    exact le_add_of_nonneg_right (abs_nonneg _)
  exact_mod_cast htrunc.trans h

/-- R112's remark, "the last check can never fire": a binary64 number whose integer part is within the construction bound is, scaled
by 2^F, at most 2^127 − 1. An integer is its own integer part; a number below 2^53 is below 2^117 when scaled. -/
theorem abs_scaled_float_le {s : State} (hF : s.LegalF) {p : BitVec 64} {x : ℚ} (hx : f64Rational p = some x)
    (hi : |ratTrunc x| ≤ 2 ^ (127 - s.fracBits) - (slackNat s.imaxSlack : ℤ)) :
    |x * 2 ^ s.fracBits| ≤ ((2 ^ 127 - 1 : ℤ) : ℚ) := by
  rw [abs_mul, abs_of_pos (by positivity : (0 : ℚ) < 2 ^ s.fracBits)]
  obtain hsmall | ⟨i, rfl⟩ := f64Rational_small_or_int hx
  · have hpow : (2 : ℚ) ^ s.fracBits ≤ 2 ^ 64 := pow_le_pow_right₀ one_le_two hF.2
    calc |x| * 2 ^ s.fracBits ≤ 2 ^ 53 * 2 ^ 64 := by gcongr
      _ ≤ ((2 ^ 127 - 1 : ℤ) : ℚ) := by norm_num
  · have htrunc : ratTrunc (i : ℚ) = i := by simp [ratTrunc]
    rw [htrunc] at hi
    have habs : |(|i|)| ≤ 2 ^ (127 - s.fracBits) - (slackNat s.imaxSlack : ℤ) := by rwa [abs_abs]
    obtain ⟨-, hlt⟩ := mul_pow_inRange hF habs
    exact_mod_cast Int.le_sub_one_of_lt hlt

/-! ### The command -/

/-- The encoding CFG.RM selects, in rationals. -/
theorem encByMode_eq (rm : RoundMode) {n : ℤ} {x : ℚ} (hx : x = (n : ℚ) / 2 ^ 1074) (f : ℕ) :
    encByMode rm n f = if rm = .biased then ratRoundAway (x * 2 ^ f) else ratTrunc (x * 2 ^ f) := by
  cases rm with
  | biased => exact encBiased_eq_ratRoundAway hx f
  | trunc => exact encTrunc_eq_ratTrunc hx f

theorem encByMode_inRange {s : State} (rm : RoundMode) {n : ℤ} {x : ℚ} (hx : x = (n : ℚ) / 2 ^ 1074)
    (hle : |x * 2 ^ s.fracBits| ≤ ((2 ^ 127 - 1 : ℤ) : ℚ)) : InRange (encByMode rm n s.fracBits) := by
  have habs : |encByMode rm n s.fracBits| ≤ 2 ^ 127 - 1 := by
    rw [encByMode_eq rm hx]
    split_ifs
    · exact abs_ratRoundAway_le hle
    · exact abs_ratTrunc_le hle
  rw [abs_le] at habs
  unfold InRange
  omega

theorem execFromf_of_not_finite {s : State} (rd : NumReg) (h : f64Rational (opaLow64 s) = none) :
    execFromf rd s = raiseErr .nonFiniteOperand s := by
  rw [f64Rational_eq_toRat] at h
  unfold execFromf
  cases hv : f64value (opaLow64 s) with
  | nan | infinity _ => rfl
  | finite units => rw [hv] at h; cases h

theorem execFromf_of_finite {s : State} (rd : NumReg) {x : ℚ} (h : f64Rational (opaLow64 s) = some x) :
    ∃ n : ℤ, x = (n : ℚ) / 2 ^ 1074 ∧ execFromf rd s =
      if ctorOk s (ratTrunc x) = false then raiseErr .constructionOverflow s
      else writeNumIfFits .constructionOverflow rd (encByMode s.cfg.rm n s.fracBits) s := by
  rw [f64Rational_eq_toRat] at h
  unfold execFromf
  cases hv : f64value (opaLow64 s) with
  | nan | infinity _ => rw [hv] at h; cases h
  | finite units =>
    rw [hv] at h
    have hx : x = (units : ℚ) / 2 ^ 1074 := (Option.some.inj h).symm
    exact ⟨units, hx, by rw [← truncUnits_eq_ratTrunc hx]⟩

/-- Settles O28: the operand's kind and the construction bound choose the end; within the bound `abs_scaled_float_le` discharges the
last check. -/
theorem fromfRoundsExactly : Obligations.FromfRoundsExactly := by
  intro rd s hF
  refine ⟨fun hnone => ?_, fun x hx => ?_⟩
  · rw [exec, execFromf_of_not_finite rd hnone]
    exact raiseErr_next s _
  · obtain ⟨n, hn, hexec⟩ := execFromf_of_finite rd hx
    rw [exec, hexec]
    refine ⟨fun hover => ite_raiseErr_next s (ctorOk_false_iff.2 hover) _ _, fun hi => ?_⟩
    rw [if_neg (ctorOk_false_iff.not.2 (not_lt.2 hi))]
    obtain ⟨t, ht, hval, hframe⟩ :=
      writeNumIfFits_inRange s .constructionOverflow rd (encByMode_inRange s.cfg.rm hn (abs_scaled_float_le hF hx hi))
    rw [encByMode_eq _ hn] at hval
    exact ⟨t, ht, hframe, fun hrm => by rw [hval, if_pos hrm], fun hrm => by rw [hval, if_neg (by simp [hrm])]⟩

end Sys2Proof.Machine
end

section
/-! The additive family (41_addsub.md). ADD, SUB and NEG check the exact result only. The commands with a native operand check the
scaled or encoded operand first, and write the sum or difference when both fit. -/

namespace Sys2Proof.Machine

/-! ### The negation -/

/-- R147: the range is not symmetric, and only −2^127 has no negation in it. -/
theorem zero_sub_sint_inRange_iff (v : Word) : InRange (0 - sint v) ↔ sint v ≠ -(2 ^ 127) := by
  have hv := sint_inRange v
  unfold InRange at *
  omega

/-- Settles O31: each command is one `writeNumIfFits` of its exact result. -/
theorem addSubNegExactOrOverflow : Obligations.AddSubNegExactOrOverflow := by
  refine ⟨fun rd rs1 rs2 s => ⟨writeNumIfFits_inRange s _ rd, writeNumIfFits_outOfRange s _ rd⟩,
    fun rd rs1 rs2 s => ⟨writeNumIfFits_inRange s _ rd, writeNumIfFits_outOfRange s _ rd⟩, fun rd rs1 s => ?_⟩
  rw [← zero_sub (sint (s.num rs1))]
  exact ⟨fun hne => writeNumIfFits_inRange s _ rd ((zero_sub_sint_inRange_iff _).2 hne),
    fun hmin => writeNumIfFits_outOfRange s _ rd fun hfits => (zero_sub_sint_inRange_iff _).1 hfits hmin⟩

/-! ### A native operand is checked before the result -/

/-- The end of a command that checks its operand `c`, then its result `v` (R142 to R145). -/
def writeNumIfBothFit (rd : NumReg) (c v : ℤ) (s : State) : Outcome :=
  if fits c = false then raiseErr .arithOverflow s else writeNumIfFits .arithOverflow rd v s

section BothFit

variable {c v : ℤ} (rd rs1 : NumReg) (s : State)

/-- An operand that fits leaves the check of the result. -/
theorem writeNumIfBothFit_of_operand (hc : InRange c) :
    writeNumIfBothFit rd c v s = writeNumIfFits .arithOverflow rd v s := if_neg (by rwa [fits_false_iff, not_not])

theorem writeNumIfBothFit_inRange (h : InRange c ∧ InRange v) :
    ∃ t, writeNumIfBothFit rd c v s = .next t ∧ sint (t.num rd) = v ∧ NumFrame rd s t := by
  obtain ⟨hc, hv⟩ := h
  rw [writeNumIfBothFit_of_operand rd s hc]
  exact writeNumIfFits_inRange s _ rd hv

/-- R142: the operand's check fires even when the result would have fitted. -/
theorem writeNumIfBothFit_outOfRange (h : ¬ (InRange c ∧ InRange v)) :
    ∃ t, writeNumIfBothFit rd c v s = .next t ∧ FailedWith .arithOverflow s t := by
  by_cases hc : InRange c
  · rw [writeNumIfBothFit_of_operand rd s hc]
    exact writeNumIfFits_outOfRange s _ rd fun hv => h ⟨hc, hv⟩
  · exact ite_raiseErr_next s (fits_false_iff.2 hc) _ _

/-- ADDI (R142): the operand is i × 2^F. -/
theorem exec_addi : exec (.addi rd rs1) s =
    writeNumIfBothFit rd (sint s.opa * 2 ^ s.fracBits) (sint (s.num rs1) + sint s.opa * 2 ^ s.fracBits) s := rfl

/-- SUBI (R143): the operand is i × 2^F. -/
theorem exec_subi : exec (.subi rd rs1) s =
    writeNumIfBothFit rd (sint s.opa * 2 ^ s.fracBits) (sint (s.num rs1) - sint s.opa * 2 ^ s.fracBits) s := rfl

end BothFit

/-- Settles O32: `exec_addi` and `exec_subi` give the operand and the result that the two ends speak of. -/
theorem addiSubiExactOrOverflow : Obligations.AddiSubiExactOrOverflow := by
  intro rd rs1 s
  rw [exec_addi, exec_subi]
  exact ⟨fun hop => ⟨fun hsum => writeNumIfBothFit_inRange rd s ⟨hop, hsum⟩,
      fun hdiff => writeNumIfBothFit_inRange rd s ⟨hop, hdiff⟩⟩,
    writeNumIfBothFit_outOfRange rd s, writeNumIfBothFit_outOfRange rd s⟩

/-! ### A binary64 operand -/

/-- A pattern without a rational value is a NaN or an infinity. -/
theorem f64value_of_not_finite {p : BitVec 64} (h : f64Rational p = none) :
    f64value p = .nan ∨ ∃ negative, f64value p = .infinity negative := by
  rw [f64Rational_eq_toRat] at h
  cases hp : f64value p with
  | nan => exact .inl rfl
  | infinity negative => exact .inr ⟨negative, rfl⟩
  | finite units => rw [hp] at h; cases h

/-- A pattern with a rational value is finite, and the value is its units'. -/
theorem f64value_of_finite {p : BitVec 64} {x : ℚ} (h : f64Rational p = some x) :
    ∃ n : ℤ, f64value p = .finite n ∧ x = (n : ℚ) / 2 ^ 1074 := by
  rw [f64Rational_eq_toRat] at h
  cases hp : f64value p with
  | nan | infinity _ => rw [hp] at h; cases h
  | finite units =>
    rw [hp] at h
    exact ⟨units, rfl, (Option.some.inj h).symm⟩

section FloatOperand

variable (rd rs1 : NumReg) {s : State}

theorem exec_addf_of_not_finite (h : f64Rational (opaLow64 s) = none) :
    exec (.addf rd rs1) s = raiseErr .nonFiniteOperand s := by
  obtain hp | ⟨negative, hp⟩ := f64value_of_not_finite h <;> simp only [exec, execAddf, hp]

theorem exec_subf_of_not_finite (h : f64Rational (opaLow64 s) = none) :
    exec (.subf rd rs1) s = raiseErr .nonFiniteOperand s := by
  obtain hp | ⟨negative, hp⟩ := f64value_of_not_finite h <;> simp only [exec, execSubf, hp]

/-- ADDF (R144): the operand is x × 2^F rounded to nearest, ties away from zero, whatever CFG.RM holds. -/
theorem exec_addf_of_finite {x : ℚ} (h : f64Rational (opaLow64 s) = some x) :
    exec (.addf rd rs1) s = writeNumIfBothFit rd (ratRoundAway (x * 2 ^ s.fracBits))
      (sint (s.num rs1) + ratRoundAway (x * 2 ^ s.fracBits)) s := by
  obtain ⟨n, hp, hn⟩ := f64value_of_finite h
  rw [← encBiased_eq_ratRoundAway hn]
  simp only [exec, execAddf, hp]
  rfl

/-- SUBF (R145): the same operand as ADDF's, checked before it is subtracted (log entry 6). -/
theorem exec_subf_of_finite {x : ℚ} (h : f64Rational (opaLow64 s) = some x) :
    exec (.subf rd rs1) s = writeNumIfBothFit rd (ratRoundAway (x * 2 ^ s.fracBits))
      (sint (s.num rs1) - ratRoundAway (x * 2 ^ s.fracBits)) s := by
  obtain ⟨n, hp, hn⟩ := f64value_of_finite h
  rw [← encBiased_eq_ratRoundAway hn]
  simp only [exec, execSubf, hp]
  rfl

end FloatOperand

/-- Settles O33: the operand's kind chooses between the error for a non-finite one and the two ends of `writeNumIfBothFit`. -/
theorem addfSubfRoundAwayOrError : Obligations.AddfSubfRoundAwayOrError := by
  intro rd rs1 s
  refine ⟨fun hnone => ?_, fun x c hx hc => ?_⟩
  · rw [exec_addf_of_not_finite rd rs1 hnone, exec_subf_of_not_finite rd rs1 hnone]
    exact ⟨raiseErr_next s _, raiseErr_next s _⟩
  · rw [exec_addf_of_finite rd rs1 hx, exec_subf_of_finite rd rs1 hx, ← hc]
    exact ⟨writeNumIfBothFit_inRange rd s, writeNumIfBothFit_outOfRange rd s,
      writeNumIfBothFit_inRange rd s, writeNumIfBothFit_outOfRange rd s⟩

end Sys2Proof.Machine
end

section
/-! The multiplicative family (42_muldiv.md). MUL, MULI and MULF floor an exact product over 2^F; DIV rounds an exact quotient as CFG.DR
selects. The model's two integer divisions are the two roundings of the rational quotient. -/

namespace Sys2Proof.Machine

/-! ### The products -/

/-- MUL (R160): the product of the two registers over 2^F, floored. -/
theorem exec_mul (rd rs1 rs2 : NumReg) (s : State) : exec (.mul rd rs1 rs2) s =
    writeNumIfFits .arithOverflow rd ⌊((sint (s.num rs1) * sint (s.num rs2) : ℤ) : ℚ) / 2 ^ s.fracBits⌋ s := by
  rw [← fdiv_pow_eq_floor]
  rfl

/-- MULI (R161): the integer enters the product unscaled. -/
theorem exec_muli (rd rs1 : NumReg) (s : State) : exec (.muli rd rs1) s =
    writeNumIfFits .arithOverflow rd ⌊((sint (s.num rs1) * sint s.opa : ℤ) : ℚ) / 2 ^ s.fracBits⌋ s := by
  rw [← fdiv_pow_eq_floor]
  rfl

/-- Settles O36: each command is one `writeNumIfFits` of its floored product. -/
theorem mulMuliFloorOrOverflow : Obligations.MulMuliFloorOrOverflow := by
  refine ⟨fun rd rs1 rs2 s v hv => ?_, fun rd rs1 s v hv => ?_⟩
  · rw [exec_mul, ← hv]
    exact ⟨writeNumIfFits_inRange s _ rd, writeNumIfFits_outOfRange s _ rd⟩
  · rw [exec_muli, ← hv]
    exact ⟨writeNumIfFits_inRange s _ rd, writeNumIfFits_outOfRange s _ rd⟩

section FloatFactor

variable (rd rs1 : NumReg) {s : State}

theorem exec_mulf_of_not_finite (h : f64Rational (opaLow64 s) = none) :
    exec (.mulf rd rs1) s = raiseErr .nonFiniteOperand s := by
  obtain hp | ⟨negative, hp⟩ := f64value_of_not_finite h <;> simp only [exec, execMulf, hp]

/-- MULF (R162): the factor is x × 2^F truncated toward zero, whatever CFG.RM holds, and is checked before the product. -/
theorem exec_mulf_of_finite {x : ℚ} (h : f64Rational (opaLow64 s) = some x) :
    exec (.mulf rd rs1) s = writeNumIfBothFit rd (ratTrunc (x * 2 ^ s.fracBits))
      ⌊((sint (s.num rs1) * ratTrunc (x * 2 ^ s.fracBits) : ℤ) : ℚ) / 2 ^ s.fracBits⌋ s := by
  obtain ⟨n, hp, hn⟩ := f64value_of_finite h
  rw [← fdiv_pow_eq_floor, ← encTrunc_eq_ratTrunc hn]
  simp only [exec, execMulf, hp]
  rfl

end FloatFactor

/-- Settles O37: the operand's kind chooses between the error for a non-finite one and the two ends of `writeNumIfBothFit`. -/
theorem mulfTruncatesThenFloors : Obligations.MulfTruncatesThenFloors := by
  intro rd rs1 s
  refine ⟨fun hnone => ?_, fun x c v hx hc hv => ?_⟩
  · rw [exec_mulf_of_not_finite rd rs1 hnone]
    exact raiseErr_next s _
  · rw [exec_mulf_of_finite rd rs1 hx, ← hc, ← hv]
    exact ⟨writeNumIfBothFit_inRange rd s, writeNumIfBothFit_outOfRange rd s⟩

/-! ### The quotient -/

/-- Truncation does not see the sign. -/
theorem ratTrunc_neg (q : ℚ) : ratTrunc (-q) = -ratTrunc q := by
  simp only [ratTrunc_eq_floor_abs, abs_neg, neg_nonneg]
  rcases lt_trichotomy q 0 with h | rfl | h
  · rw [if_pos h.le, if_neg h.not_ge, neg_neg]
  · simp
  · rw [if_neg h.not_ge, if_pos h.le]

theorem ratTrunc_natCast_div_natCast (a b : ℕ) : ratTrunc ((a : ℚ) / b) = ((a / b : ℕ) : ℤ) := by
  rw [ratTrunc, if_pos (by positivity), Rat.floor_natCast_div_natCast, Int.natCast_div]

/-- `tdiv` is the rational quotient toward zero: both are odd in each argument and agree on natural numbers. -/
theorem tdiv_eq_ratTrunc (n d : ℤ) : tdiv n d = ratTrunc ((n : ℚ) / (d : ℚ)) := by
  have hnat (m : ℤ) (b : ℕ) : Int.tdiv m b = ratTrunc ((m : ℚ) / b) := by
    obtain ⟨a, rfl | rfl⟩ := m.eq_nat_or_neg
    · rw [Int.cast_natCast, ratTrunc_natCast_div_natCast, Int.ofNat_tdiv]
    · rw [Int.cast_neg, Int.cast_natCast, neg_div, ratTrunc_neg, ratTrunc_natCast_div_natCast, Int.neg_tdiv, Int.ofNat_tdiv]
  unfold tdiv
  obtain ⟨b, rfl | rfl⟩ := d.eq_nat_or_neg
  · exact hnat n b
  · rw [Int.tdiv_neg, hnat, Int.cast_neg, Int.cast_natCast, div_neg, ratTrunc_neg]

/-- `fdiv` is the floor of the rational quotient; a negative divisor passes its sign to the dividend. -/
theorem fdiv_eq_floor (n d : ℤ) : fdiv n d = ⌊(n : ℚ) / (d : ℚ)⌋ := by
  have hnat (m : ℤ) (b : ℕ) : fdiv m b = ⌊(m : ℚ) / b⌋ := by
    rw [fdiv_eq_ediv b.cast_nonneg, Rat.floor_intCast_div_natCast]
  obtain ⟨b, rfl | rfl⟩ := d.eq_nat_or_neg
  · exact hnat n b
  · have hsign : fdiv n (-(b : ℤ)) = fdiv (-n) b := by
      unfold fdiv
      rw [← Int.neg_fdiv_neg, neg_neg]
    rw [hsign, hnat, Int.cast_neg, Int.cast_neg, Int.cast_natCast, div_neg, neg_div]

/-- R163: `rnd_DR` rounds the rational quotient as the mode says. -/
theorem rndDr_eq (dr : DivRound) (n d : ℤ) :
    rndDr dr n d = if dr = .towardZero then ratTrunc ((n : ℚ) / (d : ℚ)) else ⌊(n : ℚ) / (d : ℚ)⌋ := by
  cases dr with
  | towardZero => exact tdiv_eq_ratTrunc n d
  | towardNegInf => exact fdiv_eq_floor n d

section Div

variable (rd rs1 rs2 : NumReg) {s : State}

theorem exec_div_of_zero (h : sint (s.num rs2) = 0) : exec (.div rd rs1 rs2) s = raiseErr .divideByZero s := if_pos h

/-- DIV (R164): the range check is on the rounded quotient (log entry 7). -/
theorem exec_div_of_ne_zero (h : sint (s.num rs2) ≠ 0) : exec (.div rd rs1 rs2) s =
    writeNumIfFits .arithOverflow rd (rndDr s.cfg.dr (sint (s.num rs1) * 2 ^ s.fracBits) (sint (s.num rs2))) s := if_neg h

end Div

/-- Settles O38: past the divisor's check the command is one `writeNumIfFits` of the quotient that `rndDr_eq` rounds. -/
theorem divRoundsAsDrSelects : Obligations.DivRoundsAsDrSelects := by
  intro rd rs1 rs2 s
  refine ⟨fun hzero => ?_, fun v hne htrunc hfloor => ?_⟩
  · rw [exec_div_of_zero rd rs1 rs2 hzero]
    exact raiseErr_next s _
  · have hv : v = rndDr s.cfg.dr (sint (s.num rs1) * 2 ^ s.fracBits) (sint (s.num rs2)) := by
      rw [rndDr_eq]
      cases hdr : s.cfg.dr with
      | towardZero => exact htrunc hdr
      | towardNegInf => exact hfloor hdr
    rw [exec_div_of_ne_zero rd rs1 rs2 hne, ← hv]
    exact ⟨writeNumIfFits_inRange s _ rd, writeNumIfFits_outOfRange s _ rd⟩

end Sys2Proof.Machine
end

section
/-! Shifts and floor (43_shift_floor.md). The model's floor divisions by a power of two are operations on the register's bits: the
arithmetic shift right, and clearing the low bits. -/

namespace Sys2Proof.Machine

/-! ### The shifts -/

/-- SHL (R180): a count in range leaves the check of a × 2^n. -/
theorem exec_shl_of_lt (rd rs1 : NumReg) {s : State} (h : s.opa.toNat < 127) :
    exec (.shl rd rs1) s = writeNumIfFits .arithOverflow rd (sint (s.num rs1) * 2 ^ s.opa.toNat) s := if_neg h.not_ge

/-- Settles O40: past the count's check the command is one `writeNumIfFits` of a × 2^n. -/
theorem shlExactOrError : Obligations.ShlExactOrError := by
  intro rd rs1 s
  refine ⟨fun hrange => ite_raiseErr_next s hrange _ _, fun hlt => ?_⟩
  rw [exec_shl_of_lt rd rs1 hlt]
  exact ⟨writeNumIfFits_inRange s _ rd, writeNumIfFits_outOfRange s _ rd⟩

/-- R181: floor division by 2^n shifts the sign bits in. -/
theorem bits128_fdiv_pow (v : Word) (n : ℕ) : bits128 (fdiv (sint v) (2 ^ n)) = v.sshiftRight n := by
  rw [fdiv_eq_ediv (by positivity), BitVec.sshiftRight, Int.shiftRight_eq_div_pow]
  push_cast
  rfl

/-- SHR (R181): a count in range is written without any further check. -/
theorem exec_shr_of_lt (rd rs1 : NumReg) {s : State} (h : s.opa.toNat < 127) :
    exec (.shr rd rs1) s = writeNum rd ((s.num rs1).sshiftRight s.opa.toNat) s := by
  rw [← bits128_fdiv_pow]
  exact if_neg h.not_ge

/-- R181: the arithmetic shift right is the floor of the quotient by 2^n. -/
theorem sint_sshiftRight (v : Word) (n : ℕ) : sint (v.sshiftRight n) = ⌊(sint v : ℚ) / 2 ^ n⌋ := by
  rw [← bits128_fdiv_pow, sint_bits128 (fdiv_pow_inRange (sint_inRange v) n), fdiv_pow_eq_floor]

/-- Settles O41: the count's check, then the shift, whose value is `sint_sshiftRight`. -/
theorem shrIsTheArithmeticShift : Obligations.ShrIsTheArithmeticShift := by
  intro rd rs1 s
  refine ⟨fun hrange => ite_raiseErr_next s hrange _ _, fun hlt => ?_⟩
  obtain ⟨t, ht, hnum, hframe⟩ := writeNum_next s rd ((s.num rs1).sshiftRight s.opa.toNat)
  exact ⟨t, by rw [exec_shr_of_lt rd rs1 hlt, ht], hnum, by rw [hnum, sint_sshiftRight], hframe⟩

/-! ### The floor -/

/-- `raw AND NOT (2^f − 1)`, the bits FLOOR keeps (R182). -/
def clearLow (v : Word) (f : ℕ) : Word := v &&& ~~~(BitVec.ofNat 128 (2 ^ f - 1))

/-- Bits cleared once are clear. -/
theorem clearLow_clearLow (v : Word) (f : ℕ) : clearLow (clearLow v f) f = clearLow v f := by
  rw [clearLow, clearLow, BitVec.and_assoc, BitVec.and_self]

/-- Shifting right and back clears exactly the bits that were shifted out. -/
theorem sshiftRight_shiftLeft_eq_clearLow (v : Word) (f : ℕ) : v.sshiftRight f <<< f = clearLow v f := by
  ext i hi
  have hmask : (BitVec.ofNat 128 (2 ^ f - 1))[i] = decide (i < f) := by
    rw [← BitVec.getLsbD_eq_getElem, BitVec.getLsbD_ofNat, Nat.testBit_two_pow_sub_one, decide_eq_true hi, Bool.true_and]
  rw [clearLow, BitVec.getElem_shiftLeft, BitVec.getElem_and, BitVec.getElem_not, hmask]
  by_cases hlow : i < f
  · simp [hlow]
  · have hback : f + (i - f) = i := by omega
    simp [hlow, BitVec.getElem_sshiftRight, hback, hi]

theorem bits128_two_pow (f : ℕ) : bits128 (2 ^ f) = BitVec.twoPow 128 f := by
  have hcast : (2 : ℤ) ^ f = ((2 ^ f : ℕ) : ℤ) := by norm_cast
  rw [bits128, hcast, BitVec.ofInt_natCast]
  exact BitVec.eq_of_toNat_eq (by rw [BitVec.toNat_ofNat, BitVec.toNat_twoPow])

/-- R182: floor(a / 2^f) × 2^f is `raw AND NOT (2^f − 1)`. -/
theorem bits128_fdiv_mul_pow (v : Word) (f : ℕ) : bits128 (fdiv (sint v) (2 ^ f) * 2 ^ f) = clearLow v f := by
  calc bits128 (fdiv (sint v) (2 ^ f) * 2 ^ f)
      = bits128 (fdiv (sint v) (2 ^ f)) * bits128 (2 ^ f) := BitVec.ofInt_mul ..
    _ = v.sshiftRight f <<< f := by rw [bits128_fdiv_pow, bits128_two_pow, BitVec.mul_twoPow_eq_shiftLeft]
    _ = clearLow v f := sshiftRight_shiftLeft_eq_clearLow v f

/-- R182: the result is never above a and never below −2^127. -/
theorem fdiv_mul_pow_inRange {a : ℤ} (h : InRange a) {f : ℕ} (hf : f ≤ 127) : InRange (fdiv a (2 ^ f) * 2 ^ f) := by
  have hpos : (0 : ℤ) < 2 ^ f := by positivity
  have hsplit : -(2 ^ 127 : ℤ) = -(2 ^ (127 - f)) * 2 ^ f := by rw [neg_mul, ← pow_add, Nat.sub_add_cancel hf]
  obtain ⟨hlow, hhigh⟩ := h
  rw [fdiv_eq_ediv hpos.le]
  constructor
  · rw [hsplit] at hlow ⊢
    exact mul_le_mul_of_nonneg_right (Int.le_ediv_of_mul_le hpos hlow) hpos.le
  · exact (Int.ediv_mul_le a hpos.ne').trans_lt hhigh

/-- The bits FLOOR keeps are the floor of the value (R182, 00_scope.md R13). -/
theorem sint_clearLow {s : State} (hF : s.LegalF) (r : NumReg) :
    sint (clearLow (s.num r) s.fracBits) = ⌊s.value r⌋ * 2 ^ s.fracBits := by
  have hf : s.fracBits ≤ 127 := hF.2.trans (by norm_num)
  rw [← bits128_fdiv_mul_pow, sint_bits128 (fdiv_mul_pow_inRange (sint_inRange _) hf), fdiv_pow_eq_floor]
  rfl

/-- FLOOR (R182) clears the low F bits and has no check. -/
theorem exec_floor (rd rs1 : NumReg) (s : State) :
    exec (.floor rd rs1) s = writeNum rd (clearLow (s.num rs1) s.fracBits) s := by
  rw [← bits128_fdiv_mul_pow]
  rfl

/-- The frame of a command that writes a Num register keeps F. -/
theorem NumFrame.fracBits_eq {rd : NumReg} {s t : State} (h : NumFrame rd s t) : t.fracBits = s.fracBits := by
  obtain ⟨-, -, hcfg, -⟩ := h
  rw [State.fracBits, hcfg, State.fracBits]

/-- Settles O42: a second FLOOR meets the same F, which the first leaves unchanged, and bits that are already clear. -/
theorem floorClearsTheFraction : Obligations.FloorClearsTheFraction := by
  intro rd rs1 s hF
  obtain ⟨t, ht, hnum, hframe⟩ := writeNum_next s rd (clearLow (s.num rs1) s.fracBits)
  refine ⟨t, by rw [exec_floor, ht], by rw [hnum, sint_clearLow hF], hnum, hframe, fun rd' => ?_⟩
  have hfrac : t.fracBits = s.fracBits := hframe.fracBits_eq
  obtain ⟨t', ht', hnum', -⟩ := writeNum_next t rd' (clearLow (t.num rd) t.fracBits)
  exact ⟨t', by rw [exec_floor, ht'], by rw [hnum', hnum, hfrac, clearLow_clearLow]⟩

end Sys2Proof.Machine
end

section
/-! Comparison, conversion to an integer and the raw readout (44_compare_convert.md R190, R191, R193), and the value of a binary64
pattern (R198). CMP's outcomes are the three cases of the order; TOI and RDRAW are one write of RES. -/

namespace Sys2Proof.Machine

/-! ### The order of the values -/

section Compare

variable {a b : ℤ}

theorem compareFlag_eq_iff : compareFlag a b = .eq ↔ a = b := by
  unfold compareFlag
  split_ifs with heq hlt
  · simp [heq]
  · simp [heq]
  · simp [heq]

theorem compareFlag_lt_iff : compareFlag a b = .lt ↔ a < b := by
  unfold compareFlag
  split_ifs with heq hlt
  · simp [heq]
  · simp [hlt]
  · simp [hlt]

theorem compareFlag_gt_iff : compareFlag a b = .gt ↔ b < a := by
  unfold compareFlag
  split_ifs with heq hlt
  · simp [heq]
  · simp [hlt.le]
  · have hgt : b < a := by omega
    simp [hgt]

end Compare

/-- Distinct patterns are distinct values (10_state.md R23). -/
theorem numInt_eq_iff (s : State) (r q : NumReg) : s.numInt r = s.numInt q ↔ s.num r = s.num q := BitVec.toInt_inj

/-- The values of two registers are in the order of their signed bits: both are scaled by the same 2^F (10_state.md R23). -/
theorem value_lt_value_iff (s : State) (r q : NumReg) : s.value r < s.value q ↔ s.numInt r < s.numInt q := by
  rw [State.value, State.value, div_lt_div_iff_of_pos_right (by positivity), Int.cast_lt]

/-- Settles O43: the flag is the order of the signed bits, which is the order of the values. -/
theorem cmpOrdersTheValues : Obligations.CmpOrdersTheValues := by
  intro rs1 rs2 s
  refine ⟨_, rfl, fun _ => rfl, rfl, rfl, sameInputs_refl s, rfl, rfl, ?_, ?_, ?_⟩
  · exact compareFlag_eq_iff.trans (numInt_eq_iff s rs1 rs2)
  · exact compareFlag_lt_iff.trans (value_lt_value_iff s rs1 rs2).symm
  · exact compareFlag_gt_iff.trans (value_lt_value_iff s rs2 rs1).symm

/-! ### The integer and the raw readout -/

/-- Settles O44: the floor of a value in range is in range, so the pattern written reads back as it. -/
theorem toiFloors : Obligations.ToiFloors := by
  intro rs1 s
  obtain ⟨t, ht, hres, hframe⟩ := writeRes_next s (bits128 (fdiv (s.numInt rs1) (2 ^ s.fracBits)))
  refine ⟨t, ht, ?_, hframe⟩
  have ha : InRange (s.numInt rs1) := sint_inRange _
  rw [hres, sint_bits128 (fdiv_pow_inRange ha s.fracBits), fdiv_pow_eq_floor, State.value]

/-- Settles O47: the command ends in `writeRes` with the register's bits. -/
theorem rdrawCopiesBits : Obligations.RdrawCopiesBits := fun rs1 s => writeRes_next s (s.num rs1)

/-! ### The value of a binary64 pattern -/

/-- A count of units is determined by its rational. -/
theorem F64.toRat_eq_some_iff (v : F64) (n : ℤ) : v.toRat = some ((n : ℚ) / 2 ^ 1074) ↔ v = .finite n := by
  cases v with
  | nan | infinity _ => simp [F64.toRat]
  | finite units =>
    rw [F64.toRat, Option.some_inj, div_left_inj' (pow_ne_zero 1074 two_ne_zero), Int.cast_inj, F64.finite.injEq]

theorem F64.toRat_eq_none_iff (v : F64) : v.toRat = none ↔ v = .nan ∨ v = .infinity false ∨ v = .infinity true := by
  cases v with
  | nan => simp [F64.toRat]
  | infinity negative => cases negative <;> simp [F64.toRat]
  | finite units => simp [F64.toRat]

/-- Settles O51: the model's reading has the rule's rational (`f64Rational_eq_toRat`), and the rational determines the units. -/
theorem f64ValueIsTheRule : Obligations.F64ValueIsTheRule := by
  intro p
  rw [f64Rational_eq_toRat]
  exact ⟨fun n => ((f64value p).toRat_eq_some_iff n).symm, (f64value p).toRat_eq_none_iff⟩

end Sys2Proof.Machine
end

section
/-! TOF (44_compare_convert.md R192, R199). Counted in units of the result's last place, the register's value is a number r of
magnitude from 2^52 up to 2^53, and the pattern written has the value ⌊r⌋ of those units. A binary64 number counted in the same
units is an integer or below 2^52 in magnitude, so none lies above ⌊r⌋ and at most at r. -/

namespace Sys2Proof.Machine

/-! ### The fields of a binary64 pattern -/

/-- A binary64 pattern from its sign, its exponent field and its fraction field (44_compare_convert.md R198). -/
def packF64 (negative : Bool) (e : ℤ) (m : ℕ) : BitVec 64 := BitVec.ofBool negative ++ BitVec.ofInt 11 e ++ BitVec.ofNat 52 m

section Fields

variable (negative : Bool) (e : ℤ) (m : ℕ)

theorem getLsbD_packF64 : (packF64 negative e m).getLsbD 63 = negative := by
  rw [packF64, BitVec.getLsbD_append, BitVec.getLsbD_append]
  simp

theorem extractExponent_packF64 : (packF64 negative e m).extractLsb' 52 11 = BitVec.ofInt 11 e := by
  rw [packF64, BitVec.extractLsb'_append_eq_of_le (by norm_num)]
  exact BitVec.extractLsb'_append_eq_right

theorem extractFraction_packF64 : (packF64 negative e m).extractLsb' 0 52 = BitVec.ofNat 52 m :=
  BitVec.extractLsb'_append_eq_right

end Fields

/-- R198 on the pattern of a normal number. -/
theorem f64Rational_packF64 (negative : Bool) {e : ℤ} {m : ℕ} (he : 0 < e) (he' : e < 2047) (hm : m < 2 ^ 52) :
    f64Rational (packF64 negative e m) = some ((if negative then -1 else 1) * (2 ^ 52 + m) * (2 : ℚ) ^ (e - 1075)) := by
  lift e to ℕ using he.le
  have hexp : (BitVec.ofInt 11 (e : ℤ)).toNat = e := by
    rw [BitVec.ofInt_natCast, BitVec.toNat_ofNat]
    omega
  have hfrac : (BitVec.ofNat 52 m).toNat = m := by rw [BitVec.toNat_ofNat, Nat.mod_eq_of_lt hm]
  rw [f64Rational, getLsbD_packF64, extractExponent_packF64, extractFraction_packF64, hexp, hfrac]
  rw [if_neg (by omega), if_neg (by omega)]

/-! ### The rounded significand of R199 -/

/-- a × 2^52 / 2^L with L = floor(log2 |a|): the register's value in units of the result's last place. -/
def lastPlaceUnits (a : ℤ) : ℚ := (a : ℚ) * 2 ^ 52 / 2 ^ a.natAbs.log2

/-- The significand M of R199 with the sign of a: rounding toward −∞ is the floor on either side of zero. -/
def signedSignificand (a : ℤ) : ℤ := ⌊lastPlaceUnits a⌋

/-- The floor of a negative quotient is the ceiling of the magnitude. -/
theorem neg_ediv_natCast (n : ℕ) {d : ℕ} (hd : 0 < d) : -(n : ℤ) / d = -(((n + (d - 1)) / d : ℕ) : ℤ) := by
  have hd' : (0 : ℤ) < d := by exact_mod_cast hd
  have hlow : (n + (d - 1)) / d * d ≤ n + (d - 1) := Nat.div_mul_le_self _ _
  have hhigh : n + (d - 1) < (n + (d - 1)) / d * d + d := Nat.lt_div_mul_add hd
  rw [← fdiv_eq_ediv hd'.le, fdiv_eq_iff hd']
  generalize (n + (d - 1)) / d = k at *
  zify [hd] at hlow hhigh
  constructor <;> linarith

/-- M is a floor quotient for a positive a and a ceiling quotient for a negative one. -/
theorem natAbs_signedSignificand (a : ℤ) : (signedSignificand a).natAbs =
    if 0 ≤ a then a.natAbs * 2 ^ 52 / 2 ^ a.natAbs.log2
    else (a.natAbs * 2 ^ 52 + (2 ^ a.natAbs.log2 - 1)) / 2 ^ a.natAbs.log2 := by
  have hpos : 0 < 2 ^ a.natAbs.log2 := Nat.two_pow_pos _
  have hdiv : signedSignificand a = a * 2 ^ 52 / ((2 ^ a.natAbs.log2 : ℕ) : ℤ) := by
    rw [signedSignificand, lastPlaceUnits, ← Rat.floor_intCast_div_natCast]
    push_cast
    rfl
  rw [hdiv]
  generalize 2 ^ a.natAbs.log2 = d at hpos
  by_cases h : 0 ≤ a
  · obtain ⟨n, rfl⟩ := Int.eq_ofNat_of_zero_le h
    rw [if_pos h, Int.natAbs_natCast]
    norm_cast
  · obtain ⟨n, rfl⟩ := Int.exists_eq_neg_ofNat (not_le.1 h).le
    have hscaled : -(n : ℤ) * 2 ^ 52 = -((n * 2 ^ 52 : ℕ) : ℤ) := by push_cast; ring
    rw [if_neg h, hscaled, neg_ediv_natCast _ hpos]
    simp only [Int.natAbs_neg, Int.natAbs_natCast]

section Significand

variable {a : ℤ} (ha : a ≠ 0)
include ha

/-- 2^L is the largest power of two at most |a|. -/
theorem abs_lastPlaceUnits_bounds : 2 ^ 52 ≤ |lastPlaceUnits a| ∧ |lastPlaceUnits a| < 2 ^ 53 := by
  have hne : a.natAbs ≠ 0 := Int.natAbs_ne_zero.2 ha
  have hlow : (2 : ℚ) ^ a.natAbs.log2 ≤ a.natAbs := by exact_mod_cast Nat.log2_self_le hne
  have hhigh : (a.natAbs : ℚ) < 2 ^ (a.natAbs.log2 + 1) := by exact_mod_cast Nat.lt_log2_self
  have habs : |lastPlaceUnits a| = a.natAbs * 2 ^ 52 / 2 ^ a.natAbs.log2 := by
    rw [lastPlaceUnits, abs_div, abs_mul, Nat.cast_natAbs, Int.cast_abs]
    norm_num
  rw [habs, le_div_iff₀ (by positivity), div_lt_iff₀ (by positivity)]
  rw [pow_succ] at hhigh
  constructor <;> linarith

/-- R199: M keeps the bounds of the scaled value, reaching 2^53 only by rounding up. -/
theorem natAbs_signedSignificand_bounds :
    2 ^ 52 ≤ (signedSignificand a).natAbs ∧ (signedSignificand a).natAbs ≤ 2 ^ 53 := by
  obtain ⟨hlow, hhigh⟩ := abs_lastPlaceUnits_bounds ha
  unfold signedSignificand
  obtain hneg | hpos := lt_or_ge (lastPlaceUnits a) 0
  · rw [abs_of_neg hneg] at hlow hhigh
    have hfloor : (⌊lastPlaceUnits a⌋ : ℚ) ≤ -2 ^ 52 := (Int.floor_le _).trans (by linarith)
    have hlow' : ⌊lastPlaceUnits a⌋ ≤ -2 ^ 52 := by exact_mod_cast hfloor
    have hhigh' : -2 ^ 53 ≤ ⌊lastPlaceUnits a⌋ := Int.le_floor.2 (by push_cast; linarith)
    omega
  · rw [abs_of_nonneg hpos] at hlow hhigh
    have hlow' : 2 ^ 52 ≤ ⌊lastPlaceUnits a⌋ := Int.le_floor.2 (by push_cast; linarith)
    have hhigh' : ⌊lastPlaceUnits a⌋ < 2 ^ 53 := Int.floor_lt.2 (by push_cast; linarith)
    omega

end Significand

theorem signedSignificand_nonneg_iff (a : ℤ) : 0 ≤ signedSignificand a ↔ 0 ≤ a := by
  rw [signedSignificand, Int.floor_nonneg, lastPlaceUnits, le_div_iff₀ (by positivity), zero_mul,
    mul_nonneg_iff_of_pos_right (by positivity), Int.cast_nonneg_iff]

/-- The sign of the pattern is the sign of M. -/
theorem sign_mul_natAbs_signedSignificand (a : ℤ) :
    (if decide (a < 0) then -1 else 1 : ℚ) * ((signedSignificand a).natAbs : ℚ) = signedSignificand a := by
  simp only [Nat.cast_natAbs, decide_eq_true_eq]
  by_cases hneg : a < 0
  · have hsign : signedSignificand a < 0 := not_le.1 ((signedSignificand_nonneg_iff a).not.2 hneg.not_ge)
    rw [if_pos hneg, abs_of_neg hsign, Int.cast_neg, neg_one_mul, neg_neg]
  · have hsign : 0 ≤ signedSignificand a := (signedSignificand_nonneg_iff a).2 (not_lt.1 hneg)
    rw [if_neg hneg, abs_of_nonneg hsign, one_mul]

/-- Both branches of R199 on a number other than zero. -/
theorem f64bitsRtn_of_ne_zero {a : ℤ} (ha : a ≠ 0) (f : ℕ) : f64bitsRtn a f =
    if (signedSignificand a).natAbs = 2 ^ 53 then packF64 (decide (a < 0)) ((a.natAbs.log2 : ℤ) - f + 1 + 1023) 0
    else packF64 (decide (a < 0)) ((a.natAbs.log2 : ℤ) - f + 1023) ((signedSignificand a).natAbs - 2 ^ 52) := by
  rw [f64bitsRtn, if_neg ha, natAbs_signedSignificand]
  rfl

/-- The exponent of the result's last place, E − 52 with E = floor(log2 |a / 2^F|). -/
def lastPlaceExp (a : ℤ) (f : ℕ) : ℤ := a.natAbs.log2 - f - 52

/-- R199: the pattern stands for M units of its last place, also where M is 2^53 and the exponent is raised instead. -/
theorem f64Rational_f64bitsRtn {a : ℤ} (ha : a ≠ 0) {f : ℕ} (hlog : a.natAbs.log2 ≤ 127) (hf : f ≤ 64) :
    f64Rational (f64bitsRtn a f) = some (signedSignificand a * (2 : ℚ) ^ lastPlaceExp a f) := by
  obtain ⟨hlow, hhigh⟩ := natAbs_signedSignificand_bounds ha
  rw [f64bitsRtn_of_ne_zero ha, ← sign_mul_natAbs_signedSignificand]
  by_cases hcarry : (signedSignificand a).natAbs = 2 ^ 53
  · have hexp : (a.natAbs.log2 : ℤ) - f + 1 + 1023 - 1075 = lastPlaceExp a f + 1 := by unfold lastPlaceExp; ring
    rw [if_pos hcarry, f64Rational_packF64 _ (by omega) (by omega) (by norm_num), hcarry, hexp, zpow_add_one₀ two_ne_zero]
    push_cast
    congr 1
    ring
  · have hexp : (a.natAbs.log2 : ℤ) - f + 1023 - 1075 = lastPlaceExp a f := by unfold lastPlaceExp; ring
    rw [if_neg hcarry, f64Rational_packF64 _ (by omega) (by omega) (by omega), hexp, Nat.cast_sub hlow]
    push_cast
    congr 1
    ring

/-- R199: zero is +0.0. -/
theorem f64bitsRtn_zero (f : ℕ) : f64bitsRtn 0 f = 0 := if_pos rfl

theorem f64Rational_f64bitsRtn_zero (f : ℕ) : f64Rational (f64bitsRtn 0 f) = some 0 := by
  simp [f64bitsRtn_zero, f64Rational]

/-! ### No binary64 number lies between -/

/-- The register's value in units of the last place. -/
theorem value_eq_lastPlaceUnits (a : ℤ) (f : ℕ) : (a : ℚ) / 2 ^ f = lastPlaceUnits a * (2 : ℚ) ^ lastPlaceExp a f := by
  rw [lastPlaceExp, zpow_sub₀ two_ne_zero, zpow_sub₀ two_ne_zero, zpow_natCast, zpow_natCast, lastPlaceUnits]
  field_simp

/-- R198: a binary64 number in units of 2^j is an integer, or its significand of 53 bits leaves it below 2^52. -/
theorem f64Rational_units_small_or_int {p : BitVec 64} {x : ℚ} {j : ℤ} (hx : f64Rational p = some (x * (2 : ℚ) ^ j)) :
    |x| < 2 ^ 52 ∨ ∃ i : ℤ, x = i := by
  obtain ⟨sign, m, k, hsign, hm, hval⟩ := f64Rational_eq_some hx
  have hx' : x = sign * m * (2 : ℚ) ^ (k - j) := by
    rw [zpow_sub₀ two_ne_zero, ← mul_div_assoc, ← hval, mul_div_cancel_right₀ _ (zpow_ne_zero j two_ne_zero)]
  rcases le_or_gt j k with hk | hk
  · right
    obtain ⟨n, hn⟩ := Int.eq_ofNat_of_zero_le (sub_nonneg.2 hk)
    exact ⟨sign * m * 2 ^ n, by rw [hx', hn]; push_cast; rfl⟩
  · left
    have hsign' : |(sign : ℚ)| = 1 := by exact_mod_cast hsign
    have hpow : (2 : ℚ) ^ (k - j) ≤ 2 ^ (-1 : ℤ) := zpow_le_zpow_right₀ one_le_two (by omega)
    have hm' : (m : ℚ) < 2 ^ 53 := by exact_mod_cast hm
    calc |x| = m * (2 : ℚ) ^ (k - j) := by
          rw [hx', abs_mul, abs_mul, hsign', one_mul, Nat.abs_cast, abs_of_pos (zpow_pos two_pos _)]
      _ ≤ m * 2 ^ (-1 : ℤ) := by gcongr
      _ < 2 ^ 52 := by norm_num; linarith

/-- Above 2^52 in magnitude, the floor of r is the largest number at most r that is an integer or below 2^52 in magnitude. -/
theorem le_floor_of_small_or_int {r w : ℚ} (hr : 2 ^ 52 ≤ |r|) (hw : |w| < 2 ^ 52 ∨ ∃ i : ℤ, w = i) (hle : w ≤ r) :
    w ≤ ⌊r⌋ := by
  obtain hsmall | ⟨i, rfl⟩ := hw
  · obtain ⟨hwlow, hwhigh⟩ := abs_lt.1 hsmall
    have hr' : 2 ^ 52 ≤ r := by
      obtain h | h := le_abs.1 hr
      · exact h
      · linarith
    have hfloor : 2 ^ 52 ≤ ⌊r⌋ := Int.le_floor.2 (by exact_mod_cast hr')
    have hfloor' : (2 : ℚ) ^ 52 ≤ ⌊r⌋ := by exact_mod_cast hfloor
    exact hwhigh.le.trans hfloor'
  · exact_mod_cast Int.le_floor.2 hle

/-- R199: f64bits_rtn(a / 2^F) is the largest binary64 number at most a / 2^F. -/
theorem f64bitsRtn_isGreatest {a : ℤ} (ha : InRange a) {f : ℕ} (hf : f ≤ 64) :
    ∃ y, f64Rational (f64bitsRtn a f) = some y ∧ IsGreatest {z | (∃ p, f64Rational p = some z) ∧ z ≤ (a : ℚ) / 2 ^ f} y := by
  by_cases hzero : a = 0
  · subst hzero
    have hbits := f64Rational_f64bitsRtn_zero f
    exact ⟨0, hbits, ⟨⟨_, hbits⟩, by simp⟩, fun z hz => by simpa using hz.2⟩
  · have hlog : a.natAbs.log2 ≤ 127 := by
      have hlt : a.natAbs < 2 ^ 128 := by unfold InRange at ha; omega
      exact Nat.le_of_lt_succ ((Nat.log2_lt (Int.natAbs_ne_zero.2 hzero)).2 hlt)
    have hbits := f64Rational_f64bitsRtn hzero hlog hf
    have hunit : (0 : ℚ) < 2 ^ lastPlaceExp a f := zpow_pos two_pos _
    refine ⟨_, hbits, ⟨⟨_, hbits⟩, ?_⟩, ?_⟩
    · rw [value_eq_lastPlaceUnits]
      exact mul_le_mul_of_nonneg_right (Int.floor_le _) hunit.le
    · rintro z ⟨⟨p, hp⟩, hz⟩
      obtain ⟨w, rfl⟩ : ∃ w, z = w * (2 : ℚ) ^ lastPlaceExp a f := ⟨_, (div_mul_cancel₀ z hunit.ne').symm⟩
      rw [value_eq_lastPlaceUnits, mul_le_mul_iff_left₀ hunit] at hz
      have hfloor := le_floor_of_small_or_int (abs_lastPlaceUnits_bounds hzero).1 (f64Rational_units_small_or_int hp) hz
      exact mul_le_mul_of_nonneg_right hfloor hunit.le

/-! ### The command -/

/-- Settles O45: RES holds the pattern alone, and the pattern is the one of `f64bitsRtn_isGreatest`. -/
theorem tofIsTheLargestBinary64Below : Obligations.TofIsTheLargestBinary64Below := by
  intro rs1 s hF
  obtain ⟨t, ht, hres, hframe⟩ := writeRes_next s ((f64bitsRtn (s.numInt rs1) s.fracBits).setWidth 128)
  obtain ⟨y, hy, ⟨-, hle⟩, hgreatest⟩ := f64bitsRtn_isGreatest (sint_inRange (s.num rs1)) hF.2
  refine ⟨t, y, ht, hframe, ?_, ?_, hle, fun p z hp hz => hgreatest ⟨⟨p, hp⟩, hz⟩, fun hnum => ?_⟩
  · rw [hres, BitVec.toNat_setWidth_of_le (by norm_num)]
    exact (f64bitsRtn _ _).isLt
  · have hlow : t.res.extractLsb' 0 64 = f64bitsRtn (s.numInt rs1) s.fracBits := by
      rw [hres, ← BitVec.setWidth_eq_extractLsb' (by norm_num), BitVec.setWidth_setWidth_of_le _ (by norm_num),
        BitVec.setWidth_eq]
    rw [hlow]
    exact hy
  · have hzero : s.numInt rs1 = 0 := by rw [State.numInt, hnum]; rfl
    rw [hres, hzero, f64bitsRtn_zero]
    rfl

end Sys2Proof.Machine
end

section
/-! The control commands (45_control.md R200 to R203). CFG, STATUS and ID as numbers: each field is a digit of its register's word
(10_state.md R27, R29, R30). CFGW takes a value apart into those digits and CSRR shows them. -/

namespace Sys2Proof.Machine

/-- STATUS after CLRST is the word after reset (10_state.md R29, R36). -/
theorem statusWord_reset : statusWord Status.reset = 0x00000060 := by decide

/-- Settles O48: NOP is a success that writes nothing; what CLRST leaves in STATUS is `Status.reset`, whose word is 0x60. -/
theorem nopClrstEffects : Obligations.NopClrstEffects :=
  ⟨fun s => ⟨s.noError, rfl, fun _ => rfl, rfl, rfl, ⟨rfl, rfl, rfl⟩, sameInputs_refl s⟩,
    fun s => ⟨_, rfl, fun _ => rfl, rfl, rfl, statusWord_reset, sameInputs_refl s⟩⟩

/-! ### The registers' words as numbers -/

theorem rmBit_toNat (m : RoundMode) : (rmBit m).toNat = if m = .trunc then 1 else 0 := by cases m <;> rfl

theorem drBit_toNat (d : DivRound) : (drBit d).toNat = if d = .towardNegInf then 1 else 0 := by cases d <;> rfl

/-- CFG's layout (10_state.md R27). -/
theorem cfgWord_toNat (c : Cfg) : (cfgWord c).toNat =
    c.f.toNat + 2 ^ 8 * (if c.rm = .trunc then 1 else 0) + 2 ^ 9 * (if c.dr = .towardNegInf then 1 else 0) := by
  simp only [cfgWord, append_toNat, BitVec.toNat_ofNat, rmBit_toNat, drBit_toNat]
  omega

/-- STATUS's layout (10_state.md R29). -/
theorem statusWord_toNat (t : Status) : (statusWord t).toNat =
    (errCode t.err).toNat + 2 ^ 4 * t.sticky.toNat + 2 ^ 5 * (cmpCode t.cmp).toNat := by
  simp only [statusWord, append_toNat, BitVec.toNat_ofNat, BitVec.toNat_ofBool]
  omega

/-- ID's layout (10_state.md R30). -/
theorem idWord_toNat (k : ImaxSlack) : (idWord k).toNat =
    128 + 2 ^ 8 * 1 + 2 ^ 16 * 64 + 2 ^ 24 * slackNat k + 2 ^ 28 * 3 := by
  cases k <;> rfl

/-! ### What a STATUS word shows -/

/-- The codes are numbered in the order of their declaration (60_exceptions.md R211). -/
theorem errCode_toNat (c : ErrCode) : (errCode c).toNat = c.ctorIdx := by cases c <;> rfl

/-- The values of CMP are numbered in the order of their declaration (10_state.md R29). -/
theorem cmpCode_toNat (c : CmpFlag) : (cmpCode c).toNat = c.ctorIdx := by cases c <;> rfl

/-- A number stands for one error code only. -/
theorem err_eq_iff_toNat {c d : ErrCode} : c = d ↔ (errCode c).toNat = (errCode d).toNat := by
  rw [errCode_toNat, errCode_toNat]
  exact ⟨congrArg _, fun h => by rw [← ErrCode.ofNat_ctorIdx c, h, ErrCode.ofNat_ctorIdx]⟩

/-- A number stands for one value of CMP only. -/
theorem cmp_eq_iff_toNat {c d : CmpFlag} : c = d ↔ (cmpCode c).toNat = (cmpCode d).toNat := by
  rw [cmpCode_toNat, cmpCode_toNat]
  exact ⟨congrArg _, fun h => by rw [← CmpFlag.ofNat_ctorIdx c, h, CmpFlag.ofNat_ctorIdx]⟩

/-- The word of STATUS shows its fields: each is read back as a digit of the word, and the digit names one value. -/
theorem showsStatus_statusWord (t : Status) : ShowsStatus (statusWord t).toNat t := by
  have herr := (errCode t.err).isLt
  have hsticky := t.sticky.toNat_lt
  have hcmp := (cmpCode t.cmp).isLt
  have herrDigit : (statusWord t).toNat % 2 ^ 4 = (errCode t.err).toNat := by rw [statusWord_toNat]; omega
  have hstickyDigit : (statusWord t).toNat / 2 ^ 4 % 2 = t.sticky.toNat := by rw [statusWord_toNat]; omega
  have hcmpDigit : (statusWord t).toNat / 2 ^ 5 = (cmpCode t.cmp).toNat := by rw [statusWord_toNat]; omega
  rw [ShowsStatus, herrDigit, hstickyDigit, hcmpDigit, Bool.toNat_eq_one]
  refine ⟨?_, ?_, Iff.rfl, ?_⟩
  · rw [statusWord_toNat]
    omega
  · exact ⟨err_eq_iff_toNat, err_eq_iff_toNat, err_eq_iff_toNat, err_eq_iff_toNat, err_eq_iff_toNat, err_eq_iff_toNat,
      err_eq_iff_toNat, err_eq_iff_toNat, err_eq_iff_toNat⟩
  · exact ⟨cmp_eq_iff_toNat, cmp_eq_iff_toNat, cmp_eq_iff_toNat, cmp_eq_iff_toNat⟩

/-! ### CSRR -/

section Csrr

variable {csr : CsrIndex} {s : State}

theorem exec_csrr_of_some {w : BitVec 32} (h : csrWord csr s = some w) :
    exec (.csrr csr) s = writeRes (w.setWidth 128) s := by
  rw [exec, execCsrr, h]

/-- CSRR of an index that names a register: RES holds its word, extended with zeros. -/
theorem csrr_next {w : BitVec 32} (h : csrWord csr s = some w) :
    ∃ t, exec (.csrr csr) s = .next t ∧ ResFrame s t ∧ t.res.toNat = w.toNat := by
  obtain ⟨t, ht, hres, hframe⟩ := writeRes_next s (w.setWidth 128)
  exact ⟨t, (exec_csrr_of_some h).trans ht, hframe, by rw [hres, BitVec.toNat_setWidth_of_le (by decide)]⟩

/-- CSRR of a reserved index is refused. -/
theorem exec_csrr_of_none (h : csrWord csr s = none) : exec (.csrr csr) s = raiseErr .illegalOperation s := by
  rw [exec, execCsrr, h]

/-- The indices 3 to 7 are reserved (10_state.md R26). -/
theorem csrWord_of_three_le (h : 3 ≤ csr.val) : csrWord csr s = none := by
  rw [csrWord, if_neg (by omega), if_neg (by omega), if_neg (by omega)]

end Csrr

/-- Settles O50: the word each index names, read as a number by its layout. -/
theorem csrrReadsTheRegisters : Obligations.CsrrReadsTheRegisters := by
  refine ⟨fun s => ?cfg, fun s => ?status, fun s => showsStatus_statusWord s.status, fun s => ?id, fun csr s hcsr => ?reserved⟩
  case cfg =>
    obtain ⟨t, ht, hframe, hres⟩ := csrr_next (csr := 0) (s := s) rfl
    exact ⟨t, ht, hframe, hres.trans (cfgWord_toNat s.cfg)⟩
  case status =>
    obtain ⟨t, ht, hframe, hres⟩ := csrr_next (csr := 1) (s := s) rfl
    exact ⟨t, ht, hframe, by rw [hres]; exact showsStatus_statusWord s.status⟩
  case id =>
    obtain ⟨t, ht, hframe, hres⟩ := csrr_next (csr := 2) (s := s) rfl
    exact ⟨t, ht, hframe, hres.trans (idWord_toNat s.imaxSlack)⟩
  case reserved =>
    rw [exec_csrr_of_none (csrWord_of_three_le hcsr)]
    exact raiseErr_next s .illegalOperation

/-! ### CFGW -/

section Cfgw

variable (v : Word)

/-- A bit of a word is a binary digit of its number. -/
theorem getLsbD_eq_decide (i : ℕ) : v.getLsbD i = decide (v.toNat / 2 ^ i % 2 = 1) := by
  rw [← BitVec.testBit_toNat, Nat.testBit_eq_decide_div_mod_eq]

/-- A run of bits is clear when the digit it forms is 0. -/
theorem extractLsb'_eq_zero_iff (k n : ℕ) : v.extractLsb' k n = 0 ↔ v.toNat / 2 ^ k % 2 ^ n = 0 := by
  rw [← BitVec.toNat_inj, BitVec.extractLsb'_toNat, Nat.shiftRight_eq_div_pow, BitVec.ofNat_eq_ofNat, BitVec.toNat_zero]

theorem cfgOfValue_f_toNat : (cfgOfValue v).f.toNat = v.toNat % 2 ^ 7 := rfl

theorem cfgOfValue_rm_eq_trunc_iff : (cfgOfValue v).rm = .trunc ↔ v.getLsbD 8 = true := by simp [cfgOfValue]

theorem cfgOfValue_dr_eq_towardNegInf_iff : (cfgOfValue v).dr = .towardNegInf ↔ v.getLsbD 9 = true := by simp [cfgOfValue]

variable {v}

/-- The legal values (45_control.md R201): the two reserved runs above bit 9 are zero together exactly when the number is below
2^10. -/
theorem cfgValueLegal_iff : cfgValueLegal v = true ↔
    v.toNat < 2 ^ 10 ∧ v.getLsbD 7 = false ∧ 1 ≤ v.toNat % 2 ^ 7 ∧ v.toNat % 2 ^ 7 ≤ 64 := by
  have hv := v.isLt
  have hf : (v.extractLsb' 0 7).toNat = v.toNat % 2 ^ 7 := cfgOfValue_f_toNat v
  simp only [cfgValueLegal, Bool.and_eq_true, beq_iff_eq, extractLsb'_eq_zero_iff, decide_eq_true_eq, hf, getLsbD_eq_decide,
    decide_eq_false_iff_not]
  omega

/-- A value below 2^10 with bit 7 clear is the sum of the digits CFG keeps of it. -/
theorem cfgWord_cfgOfValue (hlt : v.toNat < 2 ^ 10) (h7 : v.getLsbD 7 = false) :
    (cfgWord (cfgOfValue v)).toNat = v.toNat := by
  simp only [cfgWord_toNat, cfgOfValue_f_toNat, cfgOfValue_rm_eq_trunc_iff, cfgOfValue_dr_eq_towardNegInf_iff]
  simp only [getLsbD_eq_decide, decide_eq_true_eq, decide_eq_false_iff_not] at h7 ⊢
  split_ifs <;> omega

end Cfgw

theorem exec_cfgw_of_legal {s : State} (h : cfgValueLegal s.opa = true) :
    exec .cfgw s = succeed { s with cfg := cfgOfValue s.opa } := if_pos h

theorem exec_cfgw_of_illegal {s : State} (h : ¬ cfgValueLegal s.opa = true) :
    exec .cfgw s = raiseErr .illegalOperation s := if_neg h

/-- Settles O49: the statement's condition is the model's check (`cfgValueLegal_iff`), which selects the success or the refusal. -/
theorem cfgwWritesLegalValuesWhole : Obligations.CfgwWritesLegalValuesWhole := by
  intro s
  rw [← cfgValueLegal_iff]
  refine ⟨fun hlegal => ?written, fun hillegal => ?refused⟩
  case written =>
    obtain ⟨hlt, h7, -, -⟩ := cfgValueLegal_iff.1 hlegal
    exact ⟨_, exec_cfgw_of_legal hlegal, cfgWord_cfgOfValue hlt h7, cfgOfValue_f_toNat s.opa, cfgOfValue_rm_eq_trunc_iff s.opa,
      cfgOfValue_dr_eq_towardNegInf_iff s.opa, fun _ => rfl, rfl, ⟨rfl, rfl, rfl⟩, sameInputs_refl s⟩
  case refused =>
    rw [exec_cfgw_of_illegal hillegal]
    exact raiseErr_next s .illegalOperation

end Sys2Proof.Machine
end

section
/-! How a command fails (60_exceptions.md R212, R216): what `exec_cases` says, read for the commands that leave an error code. -/

namespace Sys2Proof.Machine

/-- A command that leaves an error code ended in `raise Err(c)`, with a code of its column in 60_exceptions.md R211: every other
end of a command clears STATUS.ERR. -/
theorem exec_eq_withError {i : Instr} {s t : State} (h : exec i s = .next t) (herr : t.status.err ≠ .none) :
    ∃ c ∈ mayRaise i, t = s.withError c := by
  obtain ⟨c, hc, rfl⟩ | ⟨rd, v, -, rfl⟩ | ⟨-, v, rfl⟩ | ⟨a, b, c, -, rfl⟩ | ⟨-, rfl⟩ | ⟨-, -, rfl⟩ | ⟨-, rfl⟩ := exec_cases h
  case inl => exact ⟨c, hc, rfl⟩
  all_goals exact absurd rfl herr

/-- Settles O14: the failing end is `withError`, which rewrites STATUS alone, as R212 says. -/
theorem errorsArePrecise : Obligations.ErrorsArePrecise := by
  intro i s t h herr
  obtain ⟨c, -, rfl⟩ := exec_eq_withError h herr
  rfl

end Sys2Proof.Machine
end

section
/-! What every command does to STATUS (60_exceptions.md R212, R213, 45_control.md R203) and to the host's inputs, and that every
command ends: the rules over all commands, each read once from `exec_cases` or from the way a destination is filled in. -/

namespace Sys2Proof.Machine

/-! ### STATUS and the inputs after a command -/

/-- No command raises NONE or NOT_IMPLEMENTED (60_exceptions.md R211). -/
theorem ne_of_mem_mayRaise {i : Instr} {c : ErrCode} (h : c ∈ mayRaise i) : c ≠ .none ∧ c ≠ .notImplemented := by
  revert c
  unfold mayRaise
  split <;> simp

section Command

variable {i : Instr} {s t : State}

/-- The three STATUS words a command can leave: a failure's (R212), a success's (R213), in which only CMP writes the flag, and
CLRST's (R203). -/
theorem exec_status (h : exec i s = .next t) :
    (∃ c ∈ mayRaise i, t.status = { err := c, sticky := true, cmp := s.status.cmp }) ∨
    (∃ flag, (flag = s.status.cmp ∨ ∃ a b, i = .cmp a b) ∧
      t.status = { err := .none, sticky := s.status.sticky, cmp := flag }) ∨
    (i = .clrst ∧ t.status = Status.reset) := by
  obtain ⟨c, hc, rfl⟩ | ⟨rd, v, -, rfl⟩ | ⟨-, v, rfl⟩ | ⟨a, b, c, hi, rfl⟩ | ⟨-, rfl⟩ | ⟨-, -, rfl⟩ | ⟨hi, rfl⟩ := exec_cases h
  case inl => exact .inl ⟨c, hc, rfl⟩
  case inr.inr.inr.inl => exact .inr (.inl ⟨c, .inr ⟨a, b, hi⟩, rfl⟩)
  case inr.inr.inr.inr.inr.inr => exact .inr (.inr ⟨hi, rfl⟩)
  all_goals exact .inr (.inl ⟨_, .inl rfl, rfl⟩)

/-- No command touches what the host drives, the sampled buses, the command index or the parameter (10_state.md R24, R34). -/
theorem exec_sameInputs (h : exec i s = .next t) : SameInputs s t := by
  obtain ⟨c, -, rfl⟩ | ⟨rd, v, -, rfl⟩ | ⟨-, v, rfl⟩ | ⟨a, b, c, -, rfl⟩ | ⟨-, rfl⟩ | ⟨-, -, rfl⟩ | ⟨-, rfl⟩ := exec_cases h
  all_goals exact sameInputs_refl s

/-- A failure's STATUS names an error, so a success's is one of the other two. -/
theorem exec_status_of_success (h : exec i s = .next t) (herr : t.status.err = .none) :
    (∃ flag, (flag = s.status.cmp ∨ ∃ a b, i = .cmp a b) ∧
      t.status = { err := .none, sticky := s.status.sticky, cmp := flag }) ∨
    (i = .clrst ∧ t.status = Status.reset) := by
  obtain ⟨c, hc, hst⟩ | hsuccess := exec_status h
  · rw [hst] at herr
    exact absurd herr (ne_of_mem_mayRaise hc).1
  · exact hsuccess

end Command

/-- Settles O15: of the two STATUS words of a success, CLRST's is set aside, and the other changes CMP only for CMP. -/
theorem successKeepsStickyAndCmp : Obligations.SuccessKeepsStickyAndCmp := by
  intro i s t h herr
  obtain ⟨flag, hflag, hst⟩ | ⟨hclrst, -⟩ := exec_status_of_success h herr
  · rw [hst]
    refine ⟨fun _ => rfl, fun _ hcmp => ?_⟩
    obtain hsame | ⟨a, b, hi⟩ := hflag
    · exact hsame
    · exact absurd hi (hcmp a b)
  · exact ⟨fun hne => absurd hclrst hne, fun hne => absurd hclrst hne⟩

/-- Settles O16: a failure sets STICKY, a success keeps it, and the third STATUS word is CLRST's. -/
theorem onlyClrstClearsSticky : Obligations.OnlyClrstClearsSticky := by
  intro i s t h hne hsticky
  obtain ⟨c, -, hst⟩ | ⟨flag, -, hst⟩ | ⟨hclrst, -⟩ := exec_status h
  · rw [hst]
  · rw [hst]
    exact hsticky
  · exact absurd hclrst hne

/-- Settles O19: the Num registers by `exec_num_of_ne_destReg`, the inputs by `exec_sameInputs`. -/
theorem onlyTheDestinationIsWritten : Obligations.OnlyTheDestinationIsWritten :=
  fun _ _ _ h => ⟨fun _ hr => exec_num_of_ne_destReg h hr, exec_sameInputs h⟩

/-- Settles O20: an error code in STATUS was raised, and `exec_eq_withError` says from which column. -/
theorem errorCodesAreThoseOfTheTable : Obligations.ErrorCodesAreThoseOfTheTable := by
  intro i s t h
  by_cases herr : t.status.err = .none
  · exact .inl herr
  · obtain ⟨c, hc, rfl⟩ := exec_eq_withError h herr
    exact .inr hc

/-! ### Every command ends -/

/-- A command with a destination ends by `exec_retarget_destBlind`; of the others only CFGW and CSRR look at a condition. -/
theorem exec_total (i : Instr) (s : State) : ∃ t, exec i s = .next t := by
  cases hd : destReg i with
  | some d =>
    rw [← retarget_destReg hd]
    obtain ⟨v, hv⟩ | ⟨c, -, herr⟩ := exec_retarget_destBlind hd s
    · exact ⟨_, hv d⟩
    · exact ⟨_, herr d⟩
  | none =>
    cases i with
    | nop | cmp | toi | tof | rdraw | clrst => exact ⟨_, rfl⟩
    | cfgw =>
      by_cases hv : cfgValueLegal s.opa = true
      · exact ⟨_, exec_cfgw_of_legal hv⟩
      · exact ⟨_, exec_cfgw_of_illegal hv⟩
    | csrr csr =>
      cases hw : csrWord csr s with
      | none => exact ⟨_, exec_csrr_of_none hw⟩
      | some w => exact ⟨_, exec_csrr_of_some hw⟩
    | _ => cases hd

end Sys2Proof.Machine
end

section
/-! What a step can do (10_state.md R35): hold the state, reset it, or run the command offered, which is legal or raises
ILLEGAL_OPERATION. Every step ends, and every step keeps the invariant of a reachable state. -/

namespace Sys2Proof.Machine

/-! ### The stages of a step -/

section Stages

variable (p : PortIn) (c : Command) (s : State)

/-- With nothing driven on the ports the unit waits (70_reset_and_hazards.md R231). -/
theorem step_of_pending_nil {s : State} (h : s.pending = []) : step s = .next s := by
  rw [step, h]

@[simp] theorem servePort_assertReset (valid : Bool) : servePort (assertReset valid c) s = .next s.doReset := rfl

@[simp] theorem servePort_idle : servePort { rst := false, valid := false, cmd := c } s = .next s := rfl

/-- A sample resets the unit, is idle, or offers a command. -/
theorem servePort_cases :
    servePort p s = .next s.doReset ∨ servePort p s = .next s ∨ servePort p s = runCommand p.cmd s := by
  obtain ⟨rst, valid, c⟩ := p
  cases rst with
  | true => exact .inl rfl
  | false =>
    cases valid with
    | false => exact .inr (.inl rfl)
    | true => exact .inr (.inr rfl)

/-- An offered command is the one its word decodes to, or its word is illegal (30_encoding.md R75, R80). -/
theorem runCommand_cases :
    (∃ i, runCommand c s = exec i (s.accept c)) ∨ runCommand c s = raiseErr .illegalOperation (s.accept c) := by
  cases hd : decode c.word with
  | ok i => exact .inl ⟨i, runCommand_of_decode_ok hd s⟩
  | error _ => exact .inr (by rw [runCommand, hd]; rfl)

/-- An offered command ends, whatever its word, and leaves the inputs as its acceptance left them (10_state.md R24). -/
theorem runCommand_next : ∃ t, runCommand c s = .next t ∧ SameInputs (s.accept c) t := by
  obtain ⟨i, hrun⟩ | hrun := runCommand_cases c s
  · obtain ⟨t, ht⟩ := exec_total i (s.accept c)
    exact ⟨t, hrun.trans ht, exec_sameInputs ht⟩
  · exact ⟨_, hrun, sameInputs_refl _⟩

end Stages

/-- Settles O7: `accept` advances the index by one and taking the sample leaves `rest`; the command keeps both. -/
theorem commandIndexAdvancesByOne : Obligations.CommandIndexAdvancesByOne := by
  intro s c rest hp
  obtain ⟨t, ht, -, -, -, hindex, hpending⟩ := runCommand_next c { s with pending := rest }
  exact ⟨t, by rw [step_of_pending_cons hp, servePort_offer, ht], hindex, hpending⟩

/-- Settles O11: the two ends of a sample without a command answer a state outright, and a command does by `runCommand_next`. -/
theorem everyStepHasANextState : Obligations.EveryStepHasANextState := by
  intro s
  cases hp : s.pending with
  | nil => exact ⟨s, step_of_pending_nil hp⟩
  | cons p rest =>
    rw [step_of_pending_cons hp]
    obtain hserve | hserve | hserve := servePort_cases p { s with pending := rest }
    · exact ⟨_, hserve⟩
    · exact ⟨_, hserve⟩
    · obtain ⟨t, ht, -⟩ := runCommand_next p.cmd { s with pending := rest }
      exact ⟨t, hserve.trans ht⟩

/-- CFG after reset is the word 0x8 (10_state.md R27, R36). -/
theorem cfgWord_reset : cfgWord Cfg.reset = 0x00000008 := by decide

/-- Settles O8: the next state is `doReset`, whose CFG and STATUS are the reset values and whose parameter is the old one. -/
theorem resetAbandonsAnyCommand : Obligations.ResetAbandonsAnyCommand := by
  intro s valid c rest hp
  exact ⟨State.doReset { s with pending := rest }, by rw [step_of_pending_cons hp, servePort_assertReset], num_doReset _, rfl,
    cfgWord_reset, statusWord_reset, rfl, rfl⟩

/-- Settles O10: an empty port and an idle sample each answer the state they found. -/
theorem idleUnitHoldsItsState : Obligations.IdleUnitHoldsItsState :=
  ⟨fun _ hp => step_of_pending_nil hp, fun _ _ _ hp => by rw [step_of_pending_cons hp, servePort_idle]⟩

/-! ### The invariant -/

/-- Settles O12: F is 8 and STATUS.ERR is NONE. -/
theorem resetMeetsInvariant : Obligations.ResetMeetsInvariant :=
  ⟨by decide, by decide, by decide⟩

section Invariant

variable {s t : State}

/-- An outcome answers one state. -/
theorem next_unique {o : Outcome} (hs : o = .next s) (ht : o = .next t) : s = t := Host.Outcome.next.inj (hs.symm.trans ht)

/-- The invariant speaks of CFG.F and STATUS only, and both have their reset values after reset. -/
theorem doReset_inv (s : State) : s.doReset.Inv := resetMeetsInvariant

/-- A failure with a code other than NOT_IMPLEMENTED sets STICKY with its code (60_exceptions.md R212). -/
theorem withError_inv {c : ErrCode} (hF : s.LegalF) (hc : c ≠ .notImplemented) : (s.withError c).Inv := ⟨hF, hc, fun _ => rfl⟩

/-- A command keeps F legal, since only CFGW writes it and only legally. -/
theorem exec_legalF (hF : s.LegalF) {i : Instr} (h : exec i s = .next t) : t.LegalF := by
  obtain hcfg | ⟨-, -, hlegal⟩ := exec_cfg h
  · simpa only [State.LegalF, State.fracBits, hcfg] using hF
  · exact hlegal

/-- A command meets the invariant whatever STATUS it found: a failure comes with STICKY and a code of its column, and every
other end leaves NONE. -/
theorem exec_inv (hF : s.LegalF) {i : Instr} (h : exec i s = .next t) : t.Inv := by
  refine ⟨exec_legalF hF h, ?_⟩
  obtain ⟨c, hc, hst⟩ | ⟨flag, -, hst⟩ | ⟨-, hst⟩ := exec_status h <;> rw [hst]
  · exact ⟨(ne_of_mem_mayRaise hc).2, fun _ => rfl⟩
  · exact ⟨nofun, fun herr => absurd rfl herr⟩
  · exact ⟨by decide, fun herr => absurd rfl herr⟩

/-- An offered command, legal or not, meets the invariant: accepting it touches neither CFG nor STATUS. -/
theorem runCommand_inv {c : Command} (hF : s.LegalF) (h : runCommand c s = .next t) : t.Inv := by
  have haccept : (s.accept c).LegalF := hF
  obtain ⟨i, hrun⟩ | hrun := runCommand_cases c s
  · exact exec_inv haccept (hrun.symm.trans h)
  · obtain rfl : (s.accept c).withError .illegalOperation = t := next_unique hrun h
    exact withError_inv haccept (by decide)

/-- Serving a sample keeps the invariant. -/
theorem servePort_inv {p : PortIn} (hs : s.Inv) (h : servePort p s = .next t) : t.Inv := by
  obtain hserve | hserve | hserve := servePort_cases p s
  · obtain rfl : s.doReset = t := next_unique hserve h
    exact doReset_inv s
  · obtain rfl : s = t := next_unique hserve h
    exact hs
  · obtain ⟨hF, -⟩ := hs
    exact runCommand_inv hF (hserve.symm.trans h)

end Invariant

/-- Settles O13: with nothing driven the state is held, and taking a sample leaves CFG and STATUS for `servePort_inv`. -/
theorem stepKeepsInvariant : Obligations.StepKeepsInvariant := by
  intro s t hs h
  cases hp : s.pending with
  | nil =>
    obtain rfl : s = t := next_unique (step_of_pending_nil hp) h
    exact hs
  | cons p rest =>
    have htaken : State.Inv { s with pending := rest } := hs
    exact servePort_inv htaken ((step_of_pending_cons hp).symm.trans h)

end Sys2Proof.Machine
end

section
/-! The operand buses (30_encoding.md R77). Two runs of one command that differ in the buses alone end alike as long as the checks
and the value written look only at what the command reads. The property passes through the checks the meanings are built from, so
each meaning has it by its own shape. -/

namespace Sys2Proof.Machine

/-- The state with other values sampled from the operand buses. -/
def State.withBuses (x y : Word) (s : State) : State := { s with opa := x, opb := y }

/-- The second run ends where the first does, but for the buses it was given. -/
def SameButBuses (x y : Word) (o o' : Outcome) : Prop := ∃ t, o = .next t ∧ o' = .next (t.withBuses x y)

namespace SameButBuses

variable {x y : Word} {s : State} {o o' q q' : Outcome}

theorem of_writeNum {rd : NumReg} {v v' : Word} (hv : v = v') :
    SameButBuses x y (writeNum rd v s) (writeNum rd v' (s.withBuses x y)) := by
  subst hv
  exact ⟨_, rfl, rfl⟩

theorem of_writeRes (v : Word) : SameButBuses x y (writeRes v s) (writeRes v (s.withBuses x y)) := ⟨_, rfl, rfl⟩

theorem of_raiseErr (c : ErrCode) : SameButBuses x y (raiseErr c s) (raiseErr c (s.withBuses x y)) := ⟨_, rfl, rfl⟩

/-- A check that comes out the same in both runs keeps the property. -/
theorem of_ite {p : Prop} [Decidable p] (ho : SameButBuses x y o o') (hq : SameButBuses x y q q') :
    SameButBuses x y (if p then o else q) (if p then o' else q') := by
  by_cases hp : p
  · simpa only [if_pos hp] using ho
  · simpa only [if_neg hp] using hq

theorem of_writeNumIfFits (c : ErrCode) (rd : NumReg) (v : Int) :
    SameButBuses x y (writeNumIfFits c rd v s) (writeNumIfFits c rd v (s.withBuses x y)) :=
  of_ite (of_writeNum rfl) (of_raiseErr c)

/-- The binary64 commands read the low half of OPA only, and decide by it whether there is an operand. -/
theorem of_finiteOperand {k k' : Int → Outcome} {p p' : BitVec 64} (hp : p = p')
    (hk : ∀ n, SameButBuses x y (k n) (k' n)) :
    SameButBuses x y
      (match f64value p with
      | .nan => raiseErr .nonFiniteOperand s
      | .infinity _ => raiseErr .nonFiniteOperand s
      | .finite n => k n)
      (match f64value p' with
      | .nan => raiseErr .nonFiniteOperand (s.withBuses x y)
      | .infinity _ => raiseErr .nonFiniteOperand (s.withBuses x y)
      | .finite n => k' n) := by
  subst hp
  cases f64value p with
  | nan => exact of_raiseErr _
  | infinity _ => exact of_raiseErr _
  | finite n => exact hk n

end SameButBuses

open SameButBuses in
/-- What a command does not read of the buses has no effect on it (R77). -/
theorem exec_sameButBuses {i : Instr} {s : State} {x y : Word} (hx : SameRead (opaRead i) s.opa x)
    (hy : SameRead (opbRead i) s.opb y) : SameButBuses x y (exec i s) (exec i (s.withBuses x y)) := by
  cases i with
  | nop | cmp | clrst => exact ⟨_, rfl, rfl⟩
  | toi | tof | rdraw => exact of_writeRes _
  | ldzero | ldone | ldpi | lde | ldhpi | mov | floor => exact of_writeNum rfl
  | add | sub | neg | mul => exact of_writeNumIfFits _ _ _
  | div => exact of_ite (of_raiseErr _) (of_writeNumIfFits _ _ _)
  | csrr csr =>
    cases hw : csrWord csr s with
    | none =>
      rw [exec_csrr_of_none hw, exec_csrr_of_none (s := s.withBuses x y) hw]
      exact of_raiseErr _
    | some w =>
      rw [exec_csrr_of_some hw, exec_csrr_of_some (s := s.withBuses x y) hw]
      exact of_writeRes _
  | new =>
    obtain rfl : s.opa = x := hx
    obtain rfl : s.opb = y := hy
    exact of_ite (of_raiseErr _) (of_ite (of_raiseErr _) (of_writeNum rfl))
  | ldraw =>
    obtain rfl : s.opa = x := hx
    exact of_writeNum rfl
  | muli =>
    obtain rfl : s.opa = x := hx
    exact of_writeNumIfFits _ _ _
  | fromi | shr =>
    obtain rfl : s.opa = x := hx
    exact of_ite (of_raiseErr _) (of_writeNum rfl)
  | fromu =>
    obtain rfl : s.opa = x := hx
    exact of_ite (of_raiseErr _) (of_ite (of_raiseErr _) (of_writeNum rfl))
  | addi | subi | shl =>
    obtain rfl : s.opa = x := hx
    exact of_ite (of_raiseErr _) (of_writeNumIfFits _ _ _)
  | cfgw =>
    obtain rfl : s.opa = x := hx
    exact of_ite ⟨_, rfl, rfl⟩ (of_raiseErr _)
  | fraconly => exact of_writeNum (congrArg (fun p : BitVec 64 => bits128 ((p.toNat >>> (64 - s.fracBits) : ℕ) : ℤ)) hx)
  | fromf | addf | subf | mulf =>
    exact of_finiteOperand hx fun _ => of_ite (of_raiseErr _) (of_writeNumIfFits _ _ _)

/-- Settles O21: the first run answers one state, so it is the one `exec_sameButBuses` speaks of. -/
theorem unreadBusesHaveNoEffect : Obligations.UnreadBusesHaveNoEffect := by
  intro i s t x y hx hy h
  obtain ⟨t', ht', hbuses⟩ := exec_sameButBuses hx hy
  obtain rfl := next_unique ht' h
  exact hbuses

end Sys2Proof.Machine
end

section
/-! SUBF of x against ADDF of −x (41_addsub.md R145, log entry 6). Flipping bit 63 of the pattern negates the value and with it the
encoding; the sum is then the same, and the check of the encoded operand too unless the encoding is −2^127 or 2^127. -/

namespace Sys2Proof.Machine

/-! ### The negated operand -/

/-- R198: bit 63 of a binary64 pattern is its sign and no part of its magnitude. -/
theorem f64Rational_flipSign (p : BitVec 64) : f64Rational (p ^^^ (1 <<< 63)) = (f64Rational p).map (-·) := by
  have hexp : (p ^^^ (1 <<< 63)).extractLsb' 52 11 = p.extractLsb' 52 11 := by
    rw [BitVec.extractLsb'_xor, show ((1 <<< 63 : ℕ) : BitVec 64).extractLsb' 52 11 = 0#11 by decide, BitVec.xor_zero]
  have hfrac : (p ^^^ (1 <<< 63)).extractLsb' 0 52 = p.extractLsb' 0 52 := by
    rw [BitVec.extractLsb'_xor, show ((1 <<< 63 : ℕ) : BitVec 64).extractLsb' 0 52 = 0#52 by decide, BitVec.xor_zero]
  have hbit : (p ^^^ (1 <<< 63)).getLsbD 63 = !p.getLsbD 63 := by
    rw [BitVec.getLsbD_xor, show ((1 <<< 63 : ℕ) : BitVec 64).getLsbD 63 = true by decide, Bool.xor_true]
  have hsign : (if (p ^^^ (1 <<< 63)).getLsbD 63 then -1 else 1 : ℚ) = -(if p.getLsbD 63 then -1 else 1) := by
    rw [hbit]
    cases p.getLsbD 63 <;> simp
  rw [f64Rational, f64Rational, hexp, hfrac, hsign]
  generalize (if p.getLsbD 63 then -1 else 1 : ℚ) = sign
  split_ifs
  · rfl
  · simp only [neg_mul, Option.map_some]
  · simp only [neg_mul, Option.map_some]

/-- The low half of the bus with bit 63 flipped is the pattern with its sign flipped. -/
theorem low64_flipSign (v : Word) : (v ^^^ (1 <<< 63)).extractLsb' 0 64 = v.extractLsb' 0 64 ^^^ (1 <<< 63) := by
  rw [BitVec.extractLsb'_xor, show ((1 <<< 63 : ℕ) : Word).extractLsb' 0 64 = (1 <<< 63 : ℕ) by decide]

/-- A finite operand with its sign flipped is its negation. -/
theorem f64Rational_low64_flipSign {v : Word} {x : ℚ} (hx : f64Rational (v.extractLsb' 0 64) = some x) :
    f64Rational ((v ^^^ (1 <<< 63)).extractLsb' 0 64) = some (-x) := by
  rw [low64_flipSign, f64Rational_flipSign, hx, Option.map_some]

/-- Rounding half away from zero does not see the sign. -/
theorem ratRoundAway_neg (q : ℚ) : ratRoundAway (-q) = -ratRoundAway q := by
  simp only [ratRoundAway, abs_neg, neg_nonneg]
  rcases lt_trichotomy q 0 with h | rfl | h
  · rw [if_pos h.le, if_neg h.not_ge, neg_neg]
  · norm_num
  · rw [if_neg h.not_ge, if_pos h.le]

/-- An integer is its own rounding. -/
theorem ratRoundAway_intCast (n : ℤ) : ratRoundAway n = n := by
  have hhalf : ⌊((|n| : ℤ) : ℚ) + 1 / 2⌋ = |n| := by
    rw [Int.floor_intCast_add]
    norm_num
  rw [ratRoundAway, ← Int.cast_abs, hhalf]
  by_cases h : 0 ≤ n
  · rw [if_pos (Int.cast_nonneg h), abs_of_nonneg h]
  · rw [if_neg (mt Int.cast_nonneg_iff.1 h), abs_of_neg (not_le.1 h), neg_neg]

/-! ### The check of the encoded operand -/

/-- The signed range is symmetric but for −2^127. -/
theorem inRange_neg_iff {c : ℤ} (hc : |c| ≠ 2 ^ 127) : InRange (-c) ↔ InRange c := by
  rw [ne_eq, abs_eq (by norm_num)] at hc
  unfold InRange
  omega

/-- Away from ±2^127 the negated operand passes the check when the operand does. -/
theorem SameButBuses.of_negatedOperand {c : ℤ} (hc : |c| ≠ 2 ^ 127) (rd : NumReg) (v : ℤ) (s : State) (x y : Word) :
    SameButBuses x y (writeNumIfBothFit rd c v s) (writeNumIfBothFit rd (-c) v (s.withBuses x y)) := by
  have hfits : fits (-c) = fits c := by rw [Bool.eq_iff_iff, fits_iff, fits_iff, inRange_neg_iff hc]
  rw [writeNumIfBothFit, writeNumIfBothFit, hfits]
  exact of_ite (of_raiseErr _) (of_writeNumIfFits _ _ _)

/-- Settles O34: −x encodes as −c, the sum a + −c is the difference a − c, and the checks agree by `of_negatedOperand`. -/
theorem subfIsAddfOfTheNegation : Obligations.SubfIsAddfOfTheNegation := by
  intro rd rs1 s t x hx hc h
  have haddf : exec (.addf rd rs1) { s with opa := s.opa ^^^ (1 <<< 63) } =
      writeNumIfBothFit rd (-ratRoundAway (x * 2 ^ s.fracBits)) (sint (s.num rs1) - ratRoundAway (x * 2 ^ s.fracBits))
        (s.withBuses (s.opa ^^^ (1 <<< 63)) s.opb) := by
    rw [sub_eq_add_neg, ← ratRoundAway_neg, ← neg_mul]
    exact exec_addf_of_finite rd rs1 (f64Rational_low64_flipSign hx)
  obtain ⟨-, -, hopb, -⟩ := exec_sameInputs h
  rw [exec_subf_of_finite rd rs1 hx] at h
  obtain ⟨t', ht', hneg⟩ := SameButBuses.of_negatedOperand hc rd _ s (s.opa ^^^ (1 <<< 63)) s.opb
  obtain rfl := next_unique ht' h
  rw [haddf, hneg, State.withBuses, hopb]

/-! ### The operand where the remark fails -/

/-- At F = 8, the raw value −1 in N0 and x = −2^119 on OPA, which encodes as −2^127. -/
def mostNegativeEncoding : State := { State.reset.setNum 0 (-1) with opa := 0xC760000000000000 }

theorem f64Rational_mostNegativeEncoding :
    f64Rational (mostNegativeEncoding.opa.extractLsb' 0 64) = some (-(2 ^ 119)) := by
  have hpack : mostNegativeEncoding.opa.extractLsb' 0 64 = packF64 true 1142 0 := by decide
  rw [hpack, f64Rational_packF64 true (by norm_num) (by norm_num) (by norm_num)]
  norm_num

/-- −2^119 scaled by 2^8. -/
theorem ratRoundAway_mostNegativeEncoding : -(2 ^ 127) = ratRoundAway (-(2 ^ 119) * 2 ^ mostNegativeEncoding.fracBits) := by
  rw [show mostNegativeEncoding.fracBits = 8 by decide,
    show (-(2 ^ 119) * 2 ^ 8 : ℚ) = ((-(2 ^ 127) : ℤ) : ℚ) by norm_num, ratRoundAway_intCast]

/-- The encoding −2^127 and the difference −1 + 2^127 are in range, so SUBF writes (R145). -/
theorem subf_mostNegativeEncoding : ∃ t, exec (.subf 0 0) mostNegativeEncoding = .next t ∧ t.status.err = .none := by
  obtain ⟨-, hfinite⟩ := addfSubfRoundAwayOrError 0 0 mostNegativeEncoding
  obtain ⟨-, -, hsubf, -⟩ := hfinite _ _ f64Rational_mostNegativeEncoding ratRoundAway_mostNegativeEncoding
  obtain ⟨t, ht, -, -, -, -, ⟨herr, -⟩, -⟩ := hsubf (by unfold InRange; decide)
  exact ⟨t, ht, herr⟩

/-- The encoding 2^127 of −x is out of range, so ADDF fails (R144). -/
theorem addf_mostNegativeEncoding :
    ∃ t, exec (.addf 0 0) { mostNegativeEncoding with opa := mostNegativeEncoding.opa ^^^ (1 <<< 63) } = .next t ∧
      t.status.err = .arithOverflow := by
  obtain ⟨-, hfinite⟩ := addfSubfRoundAwayOrError 0 0 { mostNegativeEncoding with opa := mostNegativeEncoding.opa ^^^ (1 <<< 63) }
  have hneg : 2 ^ 127 = ratRoundAway (-(-(2 ^ 119)) * 2 ^ mostNegativeEncoding.fracBits) := by
    rw [neg_mul, ratRoundAway_neg, ← ratRoundAway_mostNegativeEncoding, neg_neg]
  obtain ⟨-, haddf, -⟩ := hfinite _ _ (f64Rational_low64_flipSign f64Rational_mostNegativeEncoding) hneg
  obtain ⟨t, ht, -, -, -, herr, -⟩ := haddf fun ⟨⟨_, hlt⟩, _⟩ => absurd hlt (lt_irrefl _)
  exact ⟨t, ht, herr⟩

/-- Refutes O35: at x = −2^119 and F = 8 SUBF succeeds and ADDF of −x raises ARITH_OVERFLOW. -/
theorem not_subfIsAddfOfTheNegationAlways : ¬ Obligations.SubfIsAddfOfTheNegationAlways := by
  intro h
  obtain ⟨t, hsubf, hnone⟩ := subf_mostNegativeEncoding
  obtain ⟨t', haddf, hoverflow⟩ := addf_mostNegativeEncoding
  have hfinite : f64Rational (mostNegativeEncoding.opa.extractLsb' 0 64) ≠ none := by
    rw [f64Rational_mostNegativeEncoding]
    exact Option.some_ne_none _
  have hsame := h 0 0 mostNegativeEncoding t hfinite (by decide) hsubf
  obtain rfl := next_unique haddf hsame
  exact absurd (hnone.symm.trans hoverflow) (by decide)

end Sys2Proof.Machine
end

section
/-! Consequences of the arithmetic and conversion rules: the identities of ADD, SUB, MUL and DIV (41_addsub.md R140, R141,
42_muldiv.md R160, R164), and the patterns TOF writes (44_compare_convert.md R192). -/

namespace Sys2Proof.Machine

/-! ### The identities -/

section Identities

variable (rd rs1 rs2 : NumReg) {s t : State}

/-- A command that ends in one check of its result and succeeds wrote a result that fits. -/
theorem writeNumIfFits_of_success {c : ErrCode} (hc : c ≠ .none) {v : ℤ} (h : writeNumIfFits c rd v s = .next t)
    (herr : t.status.err = .none) : sint (t.num rd) = v ∧ NumFrame rd s t := by
  by_cases hv : InRange v
  · obtain ⟨t', ht', hnum, hframe⟩ := writeNumIfFits_inRange s c rd hv
    obtain rfl := next_unique ht' h
    exact ⟨hnum, hframe⟩
  · obtain ⟨t', ht', -, -, -, hfail, -⟩ := writeNumIfFits_outOfRange s c rd hv
    obtain rfl := next_unique ht' h
    exact absurd (hfail.symm.trans herr) hc

/-- A result that is the value of a register already is written as that register's bits. -/
theorem writeNumIfFits_sint (c : ErrCode) (w : Word) :
    ∃ t, writeNumIfFits c rd (sint w) s = .next t ∧ t.status.err = .none ∧ t.num rd = w := by
  obtain ⟨t, ht, hnum, -, -, -, ⟨herr, -⟩, -⟩ := writeNumIfFits_inRange s c rd (sint_inRange w)
  exact ⟨t, ht, herr, BitVec.toInt_inj.1 hnum⟩

/-- (a + b) − b, where the ADD left b in its register (R140, R141). -/
theorem exec_sub_of_add (rd' : NumReg) (hne : rd ≠ rs2) (hadd : exec (.add rd rs1 rs2) s = .next t)
    (herr : t.status.err = .none) :
    exec (.sub rd' rd rs2) t = writeNumIfFits .arithOverflow rd' (sint (s.num rs1)) t := by
  obtain ⟨hsum, hother, -⟩ := writeNumIfFits_of_success rd (by decide) hadd herr
  have hdiff : sint (t.num rd) - sint (t.num rs2) = sint (s.num rs1) := by
    rw [hsum, hother rs2 hne.symm, State.numInt, State.numInt, add_sub_cancel_right]
  rw [← hdiff]
  rfl

variable (h : sint (s.num rs2) = 2 ^ s.fracBits)
include h

/-- a × one: the factor 2^F is shifted out exactly (R160). -/
theorem exec_mul_one : exec (.mul rd rs1 rs2) s = writeNumIfFits .arithOverflow rd (sint (s.num rs1)) s := by
  have hpow : (2 : ℚ) ^ s.fracBits ≠ 0 := pow_ne_zero _ two_ne_zero
  rw [exec_mul, h]
  push_cast
  rw [mul_div_cancel_right₀ _ hpow, Int.floor_intCast]

/-- a ÷ one: the quotient is exact, so the rounding mode does not matter (R163, R164). -/
theorem exec_div_one : exec (.div rd rs1 rs2) s = writeNumIfFits .arithOverflow rd (sint (s.num rs1)) s := by
  have hpow : (2 : ℤ) ^ s.fracBits ≠ 0 := pow_ne_zero _ two_ne_zero
  have hexact : rndDr s.cfg.dr (sint (s.num rs1) * 2 ^ s.fracBits) (2 ^ s.fracBits) = sint (s.num rs1) := by
    cases s.cfg.dr with
    | towardZero => exact Int.mul_tdiv_cancel _ hpow
    | towardNegInf => exact Int.mul_fdiv_cancel _ hpow
  rw [exec_div_of_ne_zero rd rs1 rs2 (h ▸ hpow), h, hexact]

end Identities

/-- Settles O39: each of the three commands is one `writeNumIfFits` of the value a register had. -/
theorem arithmeticIdentities : Obligations.ArithmeticIdentities := by
  refine ⟨fun rd rd' rs1 rs2 s t hne hadd herr => ?_, fun rd rs1 rs2 s _ hone => ?_⟩
  · rw [exec_sub_of_add rd rs1 rs2 rd' hne hadd herr]
    exact writeNumIfFits_sint rd' _ _
  · rw [exec_mul_one rd rs1 rs2 hone, exec_div_one rd rs1 rs2 hone]
    exact ⟨writeNumIfFits_sint rd _ _, writeNumIfFits_sint rd _ _⟩

/-! ### The patterns TOF writes -/

/-- The exponent field of a pattern written to RES, bits 62:52. -/
theorem extractExponent_setWidth (p : BitVec 64) : (p.setWidth 128).extractLsb' 52 11 = p.extractLsb' 52 11 := by
  ext i hi
  rw [BitVec.getElem_extractLsb', BitVec.getElem_extractLsb', BitVec.getLsbD_setWidth, decide_eq_true (by omega),
    Bool.true_and]

/-- The exponent field R199 writes for a number other than zero: E + 1023, one more where the significand is rounded up to 2^53. -/
theorem extractExponent_f64bitsRtn {a : ℤ} (ha : a ≠ 0) (f : ℕ) : (f64bitsRtn a f).extractLsb' 52 11 =
    BitVec.ofInt 11 ((a.natAbs.log2 : ℤ) - f + 1023 + if (signedSignificand a).natAbs = 2 ^ 53 then 1 else 0) := by
  rw [f64bitsRtn_of_ne_zero ha]
  split_ifs
  · rw [extractExponent_packF64, add_right_comm]
  · rw [extractExponent_packF64, add_zero]

/-- A register's magnitude has at most 128 bits. -/
theorem log2_natAbs_le_of_inRange {a : ℤ} (ha : InRange a) (hne : a ≠ 0) : a.natAbs.log2 ≤ 127 := by
  have hlt : a.natAbs < 2 ^ 128 := by
    unfold InRange at ha
    omega
  exact Nat.le_of_lt_succ ((Nat.log2_lt (Int.natAbs_ne_zero.2 hne)).2 hlt)

/-- E lies between −64 and 127, so the exponent field is that of a normal number (R192). -/
theorem exponent_f64bitsRtn_normal {a : ℤ} (ha : InRange a) (hne : a ≠ 0) {f : ℕ} (hf : f ≤ 64) :
    1 ≤ ((f64bitsRtn a f).extractLsb' 52 11).toNat ∧ ((f64bitsRtn a f).extractLsb' 52 11).toNat ≤ 2046 := by
  have hlog := log2_natAbs_le_of_inRange ha hne
  rw [extractExponent_f64bitsRtn hne, BitVec.toNat_ofInt]
  split_ifs <;> omega

/-- Settles O46: zero by `f64bitsRtn_zero`, every other number by its exponent field. -/
theorem tofIsZeroOrNormal : Obligations.TofIsZeroOrNormal := by
  intro rs1 s hF
  obtain ⟨t, ht, hres, -⟩ := writeRes_next s ((f64bitsRtn (s.numInt rs1) s.fracBits).setWidth 128)
  refine ⟨t, ht, fun hnum => ?_, fun hnum => ?_⟩
  · have hzero : s.numInt rs1 = 0 := by rw [State.numInt, hnum]; rfl
    rw [hres, hzero, f64bitsRtn_zero]
    rfl
  · have hne : s.numInt rs1 ≠ 0 := fun hzero => hnum (BitVec.toInt_inj.1 hzero)
    rw [hres, extractExponent_setWidth]
    exact exponent_f64bitsRtn_normal (sint_inRange _) hne hF.2

end Sys2Proof.Machine
end
